-- ==== Sys2Proof/Word.lean ====
section
/-! DEFINITION. The word types of the block's two ports and the field notation of 00_scope.md rule R11. -/

namespace Sys2Proof

/-- A 16-bit bus word, the type `u16` of the Word Transport (R9 `WORD_W`, R53). Bit 0 is the least significant. -/
abbrev Word16 := BitVec 16

/-- A 64-bit command word at the command port (R80, R82, R104). -/
abbrev CmdWord := BitVec 64

/-- A 28-bit frequency word (R9 `FREQ_W`). -/
abbrev FreqWord := BitVec 28

/-- A 14-bit half-word payload (R9 `HALF_W`). -/
abbrev HalfWord := BitVec 14

/-- Bits `15:14` of a bus word, the register tag (R9 `TAG_W`, R51, R97). -/
def tagBits (w : Word16) : BitVec 2 := w.extractLsb' 14 2

/-- Two masks with no common bit. -/
abbrev Disjoint16 (a b : Word16) : Prop := a &&& b = 0

/-- `v` has no bit outside `mask`. -/
abbrev Within16 (v mask : Word16) : Prop := v &&& ~~~mask = 0

end Sys2Proof
end

