-- ==== Sys2Proof/Syntax.lean ====
section
/-! DEFINITION. The commands of the block, one constructor per row of spec/opcode_table.json, and the operand
codes of 30_encoding.md rules R91 to R93. -/

namespace Sys2Proof

/-- One of the two frequency registers or of the two phase registers: `N_CH = 2` (R9). -/
inductive Channel where
  | ch0
  | ch1
deriving DecidableEq, Repr

/-- The sign-output code `s = sel[1:0]` (R91): 0 to 3 in this order. -/
inductive SignCode where
  | off
  | msb
  | msb2
  | comparator
deriving DecidableEq, Repr

/-- The output-mode code `m = sel[0]` (R92): 0 and 1 in this order. -/
inductive ModeCode where
  | sine
  | triangle
deriving DecidableEq, Repr

/-- The sleep code `z = sel[1:0]` (R93): 0 to 3 in this order. -/
inductive SleepCode where
  | off
  | mclk
  | dac
  | all
deriving DecidableEq, Repr

/-- The nine commands (R83). The channel and the shape stay 8-bit numbers, since an out-of-range one is a
well-formed command that fails at execution (R87, R94). -/
inductive Instr where
  /-- `INIT`: the reference clock in Hz (R95, R120). -/
  | init (f : BitVec 32)
  /-- `SET_FREQUENCY`: the channel, and the frequency as a two's-complement fixed-point number (R87, R88, R150). -/
  | setFrequency (ch : BitVec 8) (q : BitVec 48)
  /-- `SET_FREQUENCY_WORD`: the channel and the raw word, whose bits above 27 are part of the operand (R89, R155). -/
  | setFrequencyWord (ch : BitVec 8) (raw : BitVec 48)
  /-- `SET_PHASE_WORD`: the channel and the phase word of `PHASE_W <= 12` bits (R90, R180). -/
  | setPhaseWord (ch : BitVec 8) (p : BitVec 12)
  /-- `SET_SIGN_OUTPUT` (R191). -/
  | setSignOutput (c : SignCode)
  /-- `SET_OUTPUT_MODE` (R196). -/
  | setOutputMode (m : ModeCode)
  /-- `SET_SLEEP` (R201). -/
  | setSleep (z : SleepCode)
  /-- `SET_OUTPUT_WAVE`: the shape index (R94, R206). -/
  | setOutputWave (k : BitVec 8)
  /-- `RESET` (R220). -/
  | reset
deriving DecidableEq, Repr

end Sys2Proof
end

