-- ==== Sys2Proof/Config.lean ====
section
/-! DEFINITION. The parameters of the model (00_scope.md rule R10), the default layout `LAYOUT_AD983X`
(30_encoding.md rules R96 to R98), and the free values: constants with no body that nothing can evaluate. -/

namespace Sys2Proof

/-- Which numbers stand for a payload of the Word Transport's errors: a constant with no body, so that `TErr` stays OPEN
(R10, R109, D35). -/
opaque Config.isErrorPayload : Nat → Bool

/-- `TErr`, the type of the Word Transport's error payload: an argument of the model (R10, R109, D35), given by
`Config.isErrorPayload`, of which nothing is known. It is any countable type with an element; the number of that element
is 0 (DESIGN CHOICE, log entry 3). -/
abbrev TErr := { e : Nat // (e == 0 || Config.isErrorPayload e) = true }

/-- `CTRL_LAYOUT` (R96 to R98): a record of 16-bit masks, tags and field values. -/
structure CtrlLayout where
  b28 : Word16
  hlb : Word16
  fsel : Word16
  psel : Word16
  pinsw : Word16
  reset : Word16
  sleep1 : Word16
  sleep12 : Word16
  opbiten : Word16
  signpib : Word16
  div2 : Word16
  mode : Word16
  ctrlTag : Word16
  tagFreq0 : Word16
  tagFreq1 : Word16
  tagPhase0 : Word16
  tagPhase1 : Word16
  signMask : Word16
  modeMask : Word16
  sleepMask : Word16
  signNone : Word16
  signMsb : Word16
  signMsb2 : Word16
  signComparator : Word16
  modeSine : Word16
  modeTriangle : Word16
  sleepNone : Word16
  sleepMclk : Word16
  sleepDac : Word16
  sleepAll : Word16
deriving DecidableEq, Repr

/-- The default layout `LAYOUT_AD983X` (R96, R97, R98; D7, D8, D9). -/
def CtrlLayout.ad983x : CtrlLayout where
  b28 := 0x2000
  hlb := 0x1000
  fsel := 0x0800
  psel := 0x0400
  pinsw := 0x0200
  reset := 0x0100
  sleep1 := 0x0080
  sleep12 := 0x0040
  opbiten := 0x0020
  signpib := 0x0010
  div2 := 0x0008
  mode := 0x0002
  ctrlTag := 0x0000
  tagFreq0 := 0x4000
  tagFreq1 := 0x8000
  tagPhase0 := 0xC000
  tagPhase1 := 0xE000
  signMask := 0x0038
  modeMask := 0x0002
  sleepMask := 0x00C0
  signNone := 0x0000
  signMsb := 0x0028
  signMsb2 := 0x0020
  signComparator := 0x0038
  modeSine := 0x0000
  modeTriangle := 0x0002
  sleepNone := 0x0000
  sleepMclk := 0x0080
  sleepDac := 0x0040
  sleepAll := 0x00C0

/-- `RESET_CLEARS_CTRL` (R10, R66): what a reset-line pulse does to the device's control register. -/
inductive ResetClears where
  | unchanged
  | cleared
  | unknown
deriving DecidableEq, Repr

/-- The parameters of R10 that the model takes as an argument. They travel in `State.params` (the host fixes the type
of the step) and no step changes them. `RESET_PULSE_MIN` and `TErr` are OPEN: see `Config.resetPulseMin`, `TErr`. -/
structure Params where
  /-- `PHASE_W`, at most 12. -/
  phaseW : Nat
  /-- `CTRL_LAYOUT`. -/
  layout : CtrlLayout
  /-- `INIT_CONTROL_WORD` (R100). -/
  initControlWord : Word16
  /-- `FREQ_IN_W`, at most 48. -/
  freqInW : Nat
  /-- `FREQ_FRAC`, at most 28. -/
  freqFrac : Nat
  /-- `REFCLK_W` (R95). -/
  refclkW : Nat
  /-- `SEL_ACTIVE`: the level that asserts the select line (`true` is high). -/
  selActive : Bool
  /-- `RST_ACTIVE`: the level that asserts the reset line (`true` is high). -/
  rstActive : Bool
  /-- `RESET_CLEARS_CTRL`, read by the reference receiver only. -/
  resetClearsCtrl : ResetClears
deriving DecidableEq, Repr

/-- The default column of R10. -/
def Params.default : Params where
  phaseW := 12
  layout := CtrlLayout.ad983x
  initControlWord := CtrlLayout.ad983x.reset
  freqInW := 48
  freqFrac := 16
  refclkW := 32
  selActive := false
  rstActive := true
  resetClearsCtrl := .unchanged

/-- The answer of the Word Transport to one `Transfer16` (R13): `Ok` or `Err(e)`. -/
inductive Reply where
  | ok
  | err (e : TErr)
deriving DecidableEq, Repr

/-- `RESET_PULSE_MIN` (R10, R295): OPEN, no value in the source, so a constant with no body. -/
opaque Config.resetPulseMin : Nat

/-- FREE VALUE. The transport's answer at draw `n` (I11: any value in `Ok`, `Err(e)`), or none: it never answers
(I12, R253). -/
opaque Config.transportReply : Nat → Option Reply

/-- FREE VALUE. Whether draw `n` keeps the receiver's `pend` after a control word, or makes it `none` (R62, I17). -/
opaque Config.pendKept : Nat → Bool

/-- FREE VALUE. FREQ0 at draw `n` after a second half for the other channel (R63, I18), or after a failed transfer
(I13). -/
opaque Config.anyFreq0 : Nat → FreqWord

/-- FREE VALUE. FREQ1 at draw `n` (R63, I18, I13). -/
opaque Config.anyFreq1 : Nat → FreqWord

/-- FREE VALUE. PHASE0 at draw `n` after a failed transfer (I13). -/
opaque Config.anyPhase0 : Nat → BitVec 12

/-- FREE VALUE. PHASE1 at draw `n` after a failed transfer (I13). -/
opaque Config.anyPhase1 : Nat → BitVec 12

/-- FREE VALUE. CTRL at draw `n` after a failed transfer (I13), or after a reset pulse under
`RESET_CLEARS_CTRL = unknown` (R66, I16). -/
opaque Config.anyCtrl : Nat → Word16

/-- FREE VALUE. The phase accumulator at draw `n`: between two events of the receiver the device's own clock runs for an
unknown number of cycles (R16, R18, R66), and after a failed transfer (I13). -/
opaque Config.anyAcc : Nat → FreqWord

/-- FREE VALUE. The half of a pair the device may hold at draw `n` after a failed transfer (I13). -/
opaque Config.anyPend : Nat → Option (Channel × HalfWord)

end Sys2Proof
end

