-- ==== Sys2Proof/WellFormed.lean ====
section
/-! DEFINITION. Which layouts, parameters and commands are well formed (R10, R88, R90, R95, R99, R100). -/

namespace Sys2Proof

/-- The bits `PHASE_W-1:0` of a bus word, where a phase payload stands (R97). -/
def phasePayloadMask (phaseW : Nat) : Word16 := BitVec.ofNat 16 (2 ^ phaseW - 1)

/-- R99 (1): the three field masks, `B28` and the tag bits are pairwise disjoint. -/
abbrev CtrlLayout.MasksDisjoint (l : CtrlLayout) : Prop :=
  (Disjoint16 l.signMask l.modeMask ∧ Disjoint16 l.signMask l.sleepMask ∧ Disjoint16 l.signMask l.b28 ∧
    Disjoint16 l.signMask 0xC000) ∧
  (Disjoint16 l.modeMask l.sleepMask ∧ Disjoint16 l.modeMask l.b28 ∧ Disjoint16 l.modeMask 0xC000) ∧
  (Disjoint16 l.sleepMask l.b28 ∧ Disjoint16 l.sleepMask 0xC000) ∧ Disjoint16 l.b28 0xC000

/-- R99 (2): every field value lies within its mask. -/
abbrev CtrlLayout.ValuesWithin (l : CtrlLayout) : Prop :=
  (Within16 l.signNone l.signMask ∧ Within16 l.signMsb l.signMask ∧ Within16 l.signMsb2 l.signMask ∧
    Within16 l.signComparator l.signMask) ∧
  (Within16 l.modeSine l.modeMask ∧ Within16 l.modeTriangle l.modeMask) ∧
  (Within16 l.sleepNone l.sleepMask ∧ Within16 l.sleepMclk l.sleepMask ∧ Within16 l.sleepDac l.sleepMask ∧
    Within16 l.sleepAll l.sleepMask)

/-- R99 (3): the control tag is `00` in bits 15:14, and the frequency tags and the phase tag differ from it and from
each other there. The phase tag is one in bits 15:14 (R97). -/
abbrev CtrlLayout.TagsDistinct (l : CtrlLayout) : Prop :=
  tagBits l.ctrlTag = 0 ∧ tagBits l.tagFreq0 ≠ 0 ∧ tagBits l.tagFreq1 ≠ 0 ∧ tagBits l.tagPhase0 ≠ 0 ∧
  tagBits l.tagFreq0 ≠ tagBits l.tagFreq1 ∧ tagBits l.tagFreq0 ≠ tagBits l.tagPhase0 ∧
  tagBits l.tagFreq1 ≠ tagBits l.tagPhase0 ∧ tagBits l.tagPhase1 = tagBits l.tagPhase0

/-- R99 (4) and (5): a frequency tag leaves bits 13:0 to the payload, a phase tag leaves bits `PHASE_W-1:0`. -/
abbrev CtrlLayout.PayloadsFree (l : CtrlLayout) (phaseW : Nat) : Prop :=
  Disjoint16 l.tagFreq0 0x3FFF ∧ Disjoint16 l.tagFreq1 0x3FFF ∧
  Disjoint16 l.tagPhase0 (phasePayloadMask phaseW) ∧ Disjoint16 l.tagPhase1 (phasePayloadMask phaseW)

/-- What R96 and R97 say of every layout by calling `B28` a bit mask and by naming two phase registers: `B28` has a
bit, and the two phase tags differ. DEDUCED: R99 does not list the two. -/
abbrev CtrlLayout.BitsPresent (l : CtrlLayout) : Prop :=
  l.b28 ≠ 0 ∧ l.tagPhase0 ≠ l.tagPhase1

/-- A layout that R99 allows. -/
abbrev CtrlLayout.Ok (l : CtrlLayout) (phaseW : Nat) : Prop :=
  l.MasksDisjoint ∧ l.ValuesWithin ∧ l.TagsDistinct ∧ l.PayloadsFree phaseW ∧ l.BitsPresent

/-- Parameters that R10, R99 and R100 allow. That `FREQ_IN_W` is at least 1 is DEDUCED from R88, which reads its sign
bit; that `REFCLK_W` is at most 32 is DEDUCED from R83, which gives it 32 bits. -/
abbrev Params.Ok (p : Params) : Prop :=
  (p.phaseW ≤ 12 ∧ p.freqFrac ≤ 28 ∧ 1 ≤ p.freqInW ∧ p.freqInW ≤ 48 ∧ p.refclkW ≤ 32) ∧
  (tagBits p.initControlWord = 0 ∧ Disjoint16 p.initControlWord p.layout.b28) ∧
  p.layout.Ok p.phaseW

/-- R88: the bits of `q` from `FREQ_IN_W` up are copies of its bit `FREQ_IN_W - 1`. -/
def signExtended (freqInW : Nat) (q : BitVec 48) : Bool :=
  (q.setWidth freqInW).signExtend 48 == q

/-- The operands that an encoding can carry under parameters `p`: every constructor, no wildcard. Channel and shape
are free (R87, R94), the raw frequency word is free (R89), and the codes cannot be out of range (R91 to R93). -/
def Instr.wf (p : Params) : Instr → Bool
  | .init f => f.toNat < 2 ^ p.refclkW
  | .setFrequency _ q => signExtended p.freqInW q
  | .setFrequencyWord _ _ => true
  | .setPhaseWord _ w => w.toNat < 2 ^ p.phaseW
  | .setSignOutput _ => true
  | .setOutputMode _ => true
  | .setSleep _ => true
  | .setOutputWave _ => true
  | .reset => true

end Sys2Proof
end

