-- ==== Sys2Proof/Decode.lean ====
section
/-! DEFINITION. The command word `CMD64` (30_encoding.md rules R82 to R95, R107): its fields, the decoder, total on
every 64-bit word and refusing by name, the encoder, and the mask and match table of spec/opcode_table.json. -/

namespace Sys2Proof

/-- Why a command word spells no command. The block answers both with `IllegalCommand` (R85, R86). -/
inductive DecodeError where
  /-- Opcode 0x0 or 0xA to 0xF (R85). -/
  | reservedOpcode
  /-- A defined opcode with a bit set in a field that must be zero (R86). -/
  | mustBeZero
  /-- A frequency operand whose bits above `FREQ_IN_W` are not its sign extension (R88). -/
  | notSignExtended
deriving DecidableEq, Repr

/-- Field `op`, bits 63:60 (R82). -/
def CmdWord.op (cmd : CmdWord) : BitVec 4 := cmd.extractLsb' 60 4

/-- Field `sel`, bits 59:52 (R82). -/
def CmdWord.sel (cmd : CmdWord) : BitVec 8 := cmd.extractLsb' 52 8

/-- Field `rsv`, bits 51:48 (R82). -/
def CmdWord.rsv (cmd : CmdWord) : BitVec 4 := cmd.extractLsb' 48 4

/-- Field `data`, bits 47:0 (R82). -/
def CmdWord.data (cmd : CmdWord) : BitVec 48 := cmd.extractLsb' 0 48

/-- The command word with the four fields of R82, `rsv` zero. -/
def CmdWord.make (op : BitVec 4) (sel : BitVec 8) (data : BitVec 48) : CmdWord :=
  (op ++ (sel ++ ((0 : BitVec 4) ++ data)) : BitVec (4 + (8 + (4 + 48))))

/-- The sign code of `sel[1:0]` (R91). -/
def signOfBits (b : BitVec 2) : SignCode :=
  if b = 0 then .off else if b = 1 then .msb else if b = 2 then .msb2 else .comparator

/-- The mode code of `sel[0]` (R92). -/
def modeOfBits (b : BitVec 1) : ModeCode :=
  if b = 0 then .sine else .triangle

/-- The sleep code of `sel[1:0]` (R93). -/
def sleepOfBits (b : BitVec 2) : SleepCode :=
  if b = 0 then .off else if b = 1 then .mclk else if b = 2 then .dac else .all

/-- The number of a sign code (R91). -/
def bitsOfSign : SignCode → BitVec 2
  | .off => 0
  | .msb => 1
  | .msb2 => 2
  | .comparator => 3

/-- The number of a mode code (R92). -/
def bitsOfMode : ModeCode → BitVec 1
  | .sine => 0
  | .triangle => 1

/-- The number of a sleep code (R93). -/
def bitsOfSleep : SleepCode → BitVec 2
  | .off => 0
  | .mclk => 1
  | .dac => 2
  | .all => 3

/-- `v` if the must-be-zero test `ok` holds, else the error of R86. -/
def requireZero (ok : Bool) (v : Instr) : Except DecodeError Instr :=
  if ok then .ok v else .error .mustBeZero

/-- INIT (R83, R95, R121): `sel` and `data[47:32]` are zero, and so is every bit from `REFCLK_W` up. -/
def decodeInit (p : Params) (cmd : CmdWord) : Except DecodeError Instr :=
  requireZero (cmd.sel == 0 && cmd.rsv == 0 && cmd.data.toNat < 2 ^ p.refclkW && cmd.data.toNat < 2 ^ 32)
    (.init (cmd.data.setWidth 32))

/-- SET_FREQUENCY (R83, R87, R88, R150): `rsv` is zero and the operand is sign-extended from `FREQ_IN_W`. -/
def decodeSetFrequency (p : Params) (cmd : CmdWord) : Except DecodeError Instr :=
  if cmd.rsv ≠ 0 then .error .mustBeZero
  else if signExtended p.freqInW cmd.data then .ok (.setFrequency cmd.sel cmd.data)
  else .error .notSignExtended

/-- SET_FREQUENCY_WORD (R83, R87, R89, R155): `rsv` is zero. -/
def decodeSetFrequencyWord (cmd : CmdWord) : Except DecodeError Instr :=
  requireZero (cmd.rsv == 0) (.setFrequencyWord cmd.sel cmd.data)

/-- SET_PHASE_WORD (R83, R87, R90, R181): `rsv` and `data[47:PHASE_W]` are zero. -/
def decodeSetPhaseWord (p : Params) (cmd : CmdWord) : Except DecodeError Instr :=
  requireZero (cmd.rsv == 0 && cmd.data.toNat < 2 ^ p.phaseW && cmd.data.toNat < 2 ^ 12)
    (.setPhaseWord cmd.sel (cmd.data.setWidth 12))

/-- SET_SIGN_OUTPUT (R83, R91, R191): `sel[7:2]`, `rsv` and `data` are zero. -/
def decodeSetSignOutput (cmd : CmdWord) : Except DecodeError Instr :=
  requireZero (cmd.sel.toNat < 4 && cmd.rsv == 0 && cmd.data == 0) (.setSignOutput (signOfBits (cmd.sel.setWidth 2)))

/-- SET_OUTPUT_MODE (R83, R92, R196): `sel[7:1]`, `rsv` and `data` are zero. -/
def decodeSetOutputMode (cmd : CmdWord) : Except DecodeError Instr :=
  requireZero (cmd.sel.toNat < 2 && cmd.rsv == 0 && cmd.data == 0) (.setOutputMode (modeOfBits (cmd.sel.setWidth 1)))

/-- SET_SLEEP (R83, R93, R201): `sel[7:2]`, `rsv` and `data` are zero. -/
def decodeSetSleep (cmd : CmdWord) : Except DecodeError Instr :=
  requireZero (cmd.sel.toNat < 4 && cmd.rsv == 0 && cmd.data == 0) (.setSleep (sleepOfBits (cmd.sel.setWidth 2)))

/-- SET_OUTPUT_WAVE (R83, R94, R206): `rsv` and `data` are zero. -/
def decodeSetOutputWave (cmd : CmdWord) : Except DecodeError Instr :=
  requireZero (cmd.rsv == 0 && cmd.data == 0) (.setOutputWave cmd.sel)

/-- RESET (R83, R221): every other field is zero. -/
def decodeReset (cmd : CmdWord) : Except DecodeError Instr :=
  requireZero (cmd.sel == 0 && cmd.rsv == 0 && cmd.data == 0) .reset

/-- The decoder (R107), total on every 64-bit word, under parameters `p`. -/
def decode (p : Params) (cmd : CmdWord) : Except DecodeError Instr :=
  match cmd.op.toNat with
  | 1 => decodeInit p cmd
  | 2 => decodeSetFrequency p cmd
  | 3 => decodeSetFrequencyWord cmd
  | 4 => decodeSetPhaseWord p cmd
  | 5 => decodeSetSignOutput cmd
  | 6 => decodeSetOutputMode cmd
  | 7 => decodeSetSleep cmd
  | 8 => decodeSetOutputWave cmd
  | 9 => decodeReset cmd
  | _ => .error .reservedOpcode

/-- The opcode of a command (R83). -/
def opcode : Instr → BitVec 4
  | .init _ => 0x1
  | .setFrequency _ _ => 0x2
  | .setFrequencyWord _ _ => 0x3
  | .setPhaseWord _ _ => 0x4
  | .setSignOutput _ => 0x5
  | .setOutputMode _ => 0x6
  | .setSleep _ => 0x7
  | .setOutputWave _ => 0x8
  | .reset => 0x9

/-- The encoder (R82, R83, R105): the one command word of a well-formed command. -/
def encode (i : Instr) : CmdWord :=
  match i with
  | .init f => CmdWord.make (opcode i) 0 (f.setWidth 48)
  | .setFrequency ch q => CmdWord.make (opcode i) ch q
  | .setFrequencyWord ch raw => CmdWord.make (opcode i) ch raw
  | .setPhaseWord ch w => CmdWord.make (opcode i) ch (w.setWidth 48)
  | .setSignOutput c => CmdWord.make (opcode i) ((bitsOfSign c).setWidth 8) 0
  | .setOutputMode m => CmdWord.make (opcode i) ((bitsOfMode m).setWidth 8) 0
  | .setSleep z => CmdWord.make (opcode i) ((bitsOfSleep z).setWidth 8) 0
  | .setOutputWave k => CmdWord.make (opcode i) k 0
  | .reset => CmdWord.make (opcode i) 0 0

/-- The command word is well formed (R84, first form): its opcode is one of 0x1 to 0x9, and every field that R83 lists
as "must be zero" is zero. -/
def fieldsZero (p : Params) (cmd : CmdWord) : Bool :=
  match cmd.op.toNat with
  | 1 => cmd.sel == 0 && cmd.rsv == 0 && cmd.data.toNat < 2 ^ p.refclkW
  | 2 => cmd.rsv == 0
  | 3 => cmd.rsv == 0
  | 4 => cmd.rsv == 0 && cmd.data.toNat < 2 ^ p.phaseW
  | 5 => cmd.sel.toNat < 4 && cmd.rsv == 0 && cmd.data == 0
  | 6 => cmd.sel.toNat < 2 && cmd.rsv == 0 && cmd.data == 0
  | 7 => cmd.sel.toNat < 4 && cmd.rsv == 0 && cmd.data == 0
  | 8 => cmd.rsv == 0 && cmd.data == 0
  | 9 => cmd.sel == 0 && cmd.rsv == 0 && cmd.data == 0
  | _ => false

/-- One row of the opcode table: the bits it fixes and their values (R84). -/
structure OpcodeRow where
  mtch : CmdWord
  mask : CmdWord
deriving DecidableEq, Repr

/-- The bits `47:w` of a command word, for a must-be-zero run of the table (R83). -/
def dataMaskAbove (w : Nat) : CmdWord := BitVec.ofNat 64 (2 ^ 48 - 2 ^ w)

/-- The row of an opcode, written as spec/opcode_table.json writes it; `PHASE_W` and `REFCLK_W` enter rows 4 and 1 as
R83 says. -/
def opcodeRow (p : Params) (op : BitVec 4) : Option OpcodeRow :=
  match op.toNat with
  | 1 => some ⟨0x1000000000000000, 0xFFFF000000000000 ||| dataMaskAbove p.refclkW⟩
  | 2 => some ⟨0x2000000000000000, 0xF00F000000000000⟩
  | 3 => some ⟨0x3000000000000000, 0xF00F000000000000⟩
  | 4 => some ⟨0x4000000000000000, 0xF00F000000000000 ||| dataMaskAbove p.phaseW⟩
  | 5 => some ⟨0x5000000000000000, 0xFFCFFFFFFFFFFFFF⟩
  | 6 => some ⟨0x6000000000000000, 0xFFEFFFFFFFFFFFFF⟩
  | 7 => some ⟨0x7000000000000000, 0xFFCFFFFFFFFFFFFF⟩
  | 8 => some ⟨0x8000000000000000, 0xF00FFFFFFFFFFFFF⟩
  | 9 => some ⟨0x9000000000000000, 0xFFFFFFFFFFFFFFFF⟩
  | _ => none

/-- The command word agrees with the row of its opcode: `(cmd & mask) = match` (R84, second form). -/
def matchesRow (p : Params) (cmd : CmdWord) : Bool :=
  match opcodeRow p cmd.op with
  | none => false
  | some row => cmd &&& row.mask == row.mtch

/-- The instruction the decoder reads, under the default parameters, from an instruction of `nbits` bits whose value
is `w`. The command port takes one 64-bit value, so no byte order enters (R53, R80, R104). -/
def decodeTableWord (nbits w : Nat) : Option Instr :=
  if nbits ≤ 64 then
    match decode Params.default (BitVec.ofNat 64 (w % 2 ^ nbits)) with
    | .ok i => some i
    | .error _ => none
  else none

end Sys2Proof
end

