-- ==== Sys2Proof/Machine/State.lean ====
section
/-! DEFINITION. The state of the block (10_state.md), the actions of its plan, its port log, the reference receiver
it drives (20_memory.md rule R61), the reasons a step stops, and the state after power-on reset (R37, R280). -/

namespace Sys2Proof.Machine

/-- The result of a command (R108). `transportError` carries the transport's payload unchanged (R109). -/
inductive Result where
  | ok
  | invalidChannel
  | invalidWaveShape
  | frequencyOutOfRange
  | transportError (e : TErr)
  | illegalCommand
  | notInitialised
  | invalidReferenceClock
  | deviceStateUnknown
deriving DecidableEq, Repr

/-- The internal state update a plan ends with (R27 `Commit(c)`). -/
inductive Commit where
  /-- `init_ok(f)` (R124). -/
  | initOk (f : BitVec 32)
  /-- `return Result(OK)`, no register written (R145, R181, R190, R221). -/
  | ok
  /-- INIT's failure update (R126) and `Result(TransportError, e)`. -/
  | initFailed (e : TErr)
  /-- The failure update of every other command, `desync <- 1` (R225), and `Result(TransportError, e)`. -/
  | failed (e : TErr)
deriving DecidableEq, Repr

/-- One action of a plan (R27). A level is a Boolean, `true` for high. `hold` is `Hold(RESET_PULSE_MIN)`: the bound is
always `Config.resetPulseMin` (R13). -/
inductive Action where
  | setSel (level : Bool)
  | setRst (level : Bool)
  | hold
  | xfer (w : Word16)
  | commit (c : Commit)
deriving DecidableEq, Repr

/-- One event of the port trace (R13, R17): an action as it occurs at a port. -/
inductive Event where
  | setSel (level : Bool)
  | setRst (level : Bool)
  | hold
  | xfer (w : Word16)
deriving DecidableEq, Repr

/-- What passes at the block's ports, in order (R58): a command accepted, an event, the transport's answer to the last
transfer, a result. The trace of R17 is the events of this log, `State.trace`. -/
inductive PortItem where
  | command (cmd : CmdWord)
  | event (e : Event)
  | answer (r : Reply)
  | result (r : Result)
deriving DecidableEq, Repr

/-- The reference receiver's registers (R61) and its phase accumulator (R36, R66): an external agent, informative; no
rule of the block reads it (R60). `pend` is the half of a two-write pair already received. `acc` is the accumulator at
the receiver's last event, a word or a pulse; in between the device's own clock moves it, and the model carries no time
(R18). Its width is DEDUCED from R16 and R23 (log entry 21). -/
structure Receiver where
  ctrl : Word16
  freq0 : FreqWord
  freq1 : FreqWord
  phase0 : BitVec 12
  phase1 : BitVec 12
  pend : Option (Channel × HalfWord)
  acc : FreqWord
deriving DecidableEq, Repr

/-- Why a step stops. -/
inductive Fault where
  /-- Raised by a step that would read `ref_hz` or `shadow` while it is absent (R37: "reading them faults"; I1). Safe:
  no state that meets `State.Inv` reaches it. -/
  | unspecifiedRead
  /-- Raised by SET_FREQUENCY when `ref_hz` is present and 0, for which `2^28 / 0` has no value (R122, R32). Safe: no
  state that meets `State.Inv` reaches it. -/
  | zeroReferenceClock
  /-- The STUCK state of R253: a transfer has been handed over and the transport never answers, so no step is enabled;
  `plan`, `sel_out` and the log stand as they are. Safe: nothing is proved of a state after it. -/
  | transportSilent
deriving DecidableEq, Repr

/-- Why an instruction has no meaning. -/
inductive Refusal where
  /-- Raised by an arm of `exec` that has no meaning yet. Safe. No arm of this model raises it. -/
  | notModelled (mnemonic : String)
deriving DecidableEq, Repr

/-- The state of the machine. The block's own elements are R21 to R29; `port`, `answers` and `log` are its ports;
`receiver` is the device as an external agent; `replyDraws` and `deviceDraws` count the free values drawn. -/
structure State where
  /-- The parameters (R10), fixed for the machine: no step changes them. -/
  params : Params
  /-- `inited` (R21). -/
  inited : Bool
  /-- `desync` (R26). -/
  desync : Bool
  /-- `ref_hz` (R22): absent is the spec's own state, after power-on and after a failed INIT (R37, R126, I1). -/
  refHz : Option (BitVec 32)
  /-- `shadow` (R24): absent as `refHz` is. -/
  shadow : Option Word16
  /-- `plan` (R27); its head is the block's program counter (R28). -/
  plan : List Action
  /-- The transfer at the head of `plan` has been handed to the transport and is not answered yet (R290). -/
  awaiting : Bool
  /-- `sel_out` (R29): the level driven on the select line, `true` for high. -/
  selOut : Bool
  /-- `rst_out` (R29): the level driven on the reset line. -/
  rstOut : Bool
  /-- The command words presented and not yet accepted, in the order presented (R80, R81). -/
  port : List CmdWord
  /-- What has passed at the ports so far, oldest first. -/
  log : List PortItem
  /-- The transport's answers to the coming transfers, in order, one entry a transfer: its answer (I11), or none, a
  transfer that is never answered (I12). Beyond this list the answers are free draws. -/
  answers : List (Option Reply)
  /-- How many answers have been drawn from `Config.transportReply` (the model's own field). -/
  replyDraws : Nat
  /-- The reference receiver (R61). -/
  receiver : Receiver
  /-- How many free values of the receiver have been drawn (the model's own field). -/
  deviceDraws : Nat
deriving DecidableEq, Repr

/-- The receiver before its first word: "unknown (any value)" (R61, I19). DESIGN CHOICE: zero in every register and in
the accumulator, and no pending half. -/
def Receiver.atPowerOn : Receiver where
  ctrl := 0
  freq0 := 0
  freq1 := 0
  phase0 := 0
  phase1 := 0
  pend := none
  acc := 0

/-- The block after its power-on reset under parameters `p` (R37, R280). -/
def State.powerOn (p : Params) : State where
  params := p
  inited := false
  desync := false
  refHz := none
  shadow := none
  plan := []
  awaiting := false
  selOut := !p.selActive
  rstOut := !p.rstActive
  port := []
  log := []
  answers := []
  replyDraws := 0
  receiver := Receiver.atPowerOn
  deviceDraws := 0

/-- The machine right after reset (R37, R280), with the default parameters of R10. -/
def State.reset : State := State.powerOn Params.default

end Sys2Proof.Machine
end

