-- ==== Sys2Proof/Machine/Operands.lean ====
section
/-! DEFINITION. Operand forms: the channel and the shape (R87, R94, R207), the field values of a layout (R98), the bus
words (R101, R102), and the result codes (R108). -/

namespace Sys2Proof.Machine

/-- The channel an 8-bit operand selects: 0 and 1, no other (R87, R246). -/
def channelOf (ch : BitVec 8) : Option Channel :=
  if ch = 0 then some .ch0 else if ch = 1 then some .ch1 else none

/-- `TAG_FREQ(ch)` (R97). -/
def tagFreq (l : CtrlLayout) : Channel → Word16
  | .ch0 => l.tagFreq0
  | .ch1 => l.tagFreq1

/-- `TAG_PHASE(ch)` (R97). -/
def tagPhase (l : CtrlLayout) : Channel → Word16
  | .ch0 => l.tagPhase0
  | .ch1 => l.tagPhase1

/-- `SIGN_VAL(s)` (R98). -/
def signVal (l : CtrlLayout) : SignCode → Word16
  | .off => l.signNone
  | .msb => l.signMsb
  | .msb2 => l.signMsb2
  | .comparator => l.signComparator

/-- `MODE_VAL(m)` (R98). -/
def modeVal (l : CtrlLayout) : ModeCode → Word16
  | .sine => l.modeSine
  | .triangle => l.modeTriangle

/-- `SLEEP_VAL(z)` (R98). -/
def sleepVal (l : CtrlLayout) : SleepCode → Word16
  | .off => l.sleepNone
  | .mclk => l.sleepMclk
  | .dac => l.sleepDac
  | .all => l.sleepAll

/-- `WAVE_MAP(k)` (R207); no shape other than 0, 1 and 2 (R206, R247). -/
def waveMap (k : BitVec 8) : Option (SignCode × ModeCode) :=
  if k = 0 then some (.off, .sine)
  else if k = 1 then some (.off, .triangle)
  else if k = 2 then some (.comparator, .sine)
  else none

/-- `W[13:0]` (R102). -/
def lowHalf (w : FreqWord) : HalfWord := w.extractLsb' 0 14

/-- `W[27:14]` (R102). -/
def highHalf (w : FreqWord) : HalfWord := w.extractLsb' 14 14

/-- A frequency half word: `TAG_FREQ(ch) | zext_16(half)` (R101). -/
def freqHalfWord (l : CtrlLayout) (ch : Channel) (half : HalfWord) : Word16 := tagFreq l ch ||| half.setWidth 16

/-- A phase word: `TAG_PHASE(ch) | zext_16(p)` (R101, R181). -/
def phaseBusWord (l : CtrlLayout) (ch : Channel) (p : BitVec 12) : Word16 := tagPhase l ch ||| p.setWidth 16

/-- The bits of a field cleared and the field's new value ORed in (R190). -/
def insertField (shadow mask val : Word16) : Word16 := (shadow &&& ~~~mask) ||| val

/-- The 4-bit result code (R108). -/
def Result.code : Result → BitVec 4
  | .ok => 0
  | .invalidChannel => 1
  | .invalidWaveShape => 2
  | .frequencyOutOfRange => 3
  | .transportError _ => 4
  | .illegalCommand => 5
  | .notInitialised => 6
  | .invalidReferenceClock => 7
  | .deviceStateUnknown => 8

/-- The result's payload: only `TransportError` has one (R108, R109). -/
def Result.payload : Result → Option TErr
  | .ok => none
  | .invalidChannel => none
  | .invalidWaveShape => none
  | .frequencyOutOfRange => none
  | .transportError e => some e
  | .illegalCommand => none
  | .notInitialised => none
  | .invalidReferenceClock => none
  | .deviceStateUnknown => none

end Sys2Proof.Machine
end

