-- ==== Sys2Proof/Machine/Device.lean ====
section
/-! DEFINITION. The reference receiver (20_memory.md rules R36, R60 to R66): what the device makes of the block's words
and reset pulses. Every point the spec calls unknown is a free value of Config, drawn with the counter `n`. -/

namespace Sys2Proof.Machine

/-- Frequency register `ch` set to `v`. -/
def Receiver.setFreq (r : Receiver) (ch : Channel) (v : FreqWord) : Receiver :=
  match ch with
  | .ch0 => { r with freq0 := v }
  | .ch1 => { r with freq1 := v }

/-- Frequency register `ch`. -/
def Receiver.freq (r : Receiver) : Channel → FreqWord
  | .ch0 => r.freq0
  | .ch1 => r.freq1

/-- Phase register `ch` set to `v`. -/
def Receiver.setPhase (r : Receiver) (ch : Channel) (v : BitVec 12) : Receiver :=
  match ch with
  | .ch0 => { r with phase0 := v }
  | .ch1 => { r with phase1 := v }

/-- Phase register `ch`. -/
def Receiver.phase (r : Receiver) : Channel → BitVec 12
  | .ch0 => r.phase0
  | .ch1 => r.phase1

/-- `w[13:0]`, the payload of a frequency word (R97). -/
def payload14 (w : Word16) : HalfWord := w.extractLsb' 0 14

/-- `w[PHASE_W-1:0]`, the payload of a phase word (R65). -/
def phasePayload (p : Params) (w : Word16) : BitVec 12 := (w &&& phasePayloadMask p.phaseW).setWidth 12

/-- The phase register a phase word selects: the bit in which the two phase tags differ, bit 13 of `LAYOUT_AD983X`
(R65, R97). -/
def phaseChannel (l : CtrlLayout) (w : Word16) : Channel :=
  if (w ^^^ l.tagPhase1) &&& (l.tagPhase0 ^^^ l.tagPhase1) = 0 then .ch1 else .ch0

/-- A control word (R62): `CTRL <- w`; `pend` keeps its value or becomes `none`, a draw. -/
def Receiver.controlWord (n : Nat) (w : Word16) (r : Receiver) : Receiver :=
  { r with ctrl := w, pend := if Config.pendKept n then r.pend else none }

/-- A word with the tag of FREQ`ch` in two-write mode (R63): the first half waits, the second completes the register,
and a half for the other channel leaves both registers at any value. -/
def Receiver.pairedHalf (n : Nat) (ch : Channel) (half : HalfWord) (r : Receiver) : Receiver :=
  match r.pend with
  | none => { r with pend := some (ch, half) }
  | some (c, lo) =>
    if c = ch then { r.setFreq ch (half ++ lo : BitVec (14 + 14)) with pend := none }
    else { r with freq0 := Config.anyFreq0 n, freq1 := Config.anyFreq1 n, pend := none }

/-- A word with the tag of FREQ`ch` outside two-write mode (R64): the half that `HLB` chooses. -/
def Receiver.singleHalf (l : CtrlLayout) (ch : Channel) (half : HalfWord) (r : Receiver) : Receiver :=
  if r.ctrl &&& l.hlb ≠ 0 then r.setFreq ch (half ++ lowHalf (r.freq ch) : BitVec (14 + 14))
  else r.setFreq ch (highHalf (r.freq ch) ++ half : BitVec (14 + 14))

/-- A word with the tag of FREQ`ch` (R63, R64). -/
def Receiver.freqHalf (l : CtrlLayout) (n : Nat) (ch : Channel) (half : HalfWord) (r : Receiver) : Receiver :=
  if r.ctrl &&& l.b28 ≠ 0 then r.pairedHalf n ch half else r.singleHalf l ch half

/-- One word consumed (R62 to R65), routed by its tag (R51, R97). The four tags are all the values of bits 15:14
(R57), so a word that is no control word and no frequency word is a phase word. -/
def Receiver.consume (p : Params) (n : Nat) (w : Word16) (r : Receiver) : Receiver :=
  if tagBits w = tagBits p.layout.ctrlTag then r.controlWord n w
  else if tagBits w = tagBits p.layout.tagFreq0 then r.freqHalf p.layout n .ch0 (payload14 w)
  else if tagBits w = tagBits p.layout.tagFreq1 then r.freqHalf p.layout n .ch1 (payload14 w)
  else r.setPhase (phaseChannel p.layout w) (phasePayload p w)

/-- CTRL after a reset-line pulse, as `RESET_CLEARS_CTRL` says (R66, I16). -/
def Receiver.ctrlAfterPulse (p : Params) (n : Nat) (r : Receiver) : Word16 :=
  match p.resetClearsCtrl with
  | .unchanged => r.ctrl
  | .cleared => 0
  | .unknown => Config.anyCtrl n

/-- A reset-line pulse (R66): `pend <- none`, the accumulator to zero, FREQ and PHASE as before, CTRL as
`RESET_CLEARS_CTRL` says. -/
def Receiver.pulse (p : Params) (n : Nat) (r : Receiver) : Receiver :=
  { r with ctrl := r.ctrlAfterPulse p n, pend := none, acc := 0 }

/-- The device's own clock has run for an unknown number of cycles (R16): the accumulator holds any value. -/
def Receiver.clockRuns (n : Nat) (r : Receiver) : Receiver := { r with acc := Config.anyAcc n }

/-- The receiver after a failed transfer: any value in every register and `pend` (I13); a phase register keeps its
`PHASE_W` bits. -/
def Receiver.anyValue (p : Params) (n : Nat) : Receiver where
  ctrl := Config.anyCtrl n
  freq0 := Config.anyFreq0 n
  freq1 := Config.anyFreq1 n
  phase0 := phasePayload p ((Config.anyPhase0 n).setWidth 16)
  phase1 := phasePayload p ((Config.anyPhase1 n).setWidth 16)
  pend := Config.anyPend n
  acc := Config.anyAcc n

end Sys2Proof.Machine
end

