-- ==== Sys2Proof/Machine/Flags.lean ====
section
/-! DEFINITION. The block's two flags, `inited` and `desync` (R33): the check every command but INIT makes of them,
and the two updates a transfer failure makes. The block has no condition codes. -/

namespace Sys2Proof.Machine

/-- The refusal a command other than INIT meets before its own checks: `NotInitialised` while `inited = 0` (R244),
then `DeviceStateUnknown` while `desync = 1` (R251), in the order of R255. -/
def State.notReady (s : State) : Option Result :=
  if s.inited = false then some .notInitialised
  else if s.desync then some .deviceStateUnknown
  else none

/-- INIT has succeeded: `inited <- 1`, `desync <- 0` (R124). -/
def State.setInitialised (s : State) : State := { s with inited := true, desync := false }

/-- INIT's transfer failed: `inited <- 0`, `desync <- 0`, and `ref_hz` and `shadow` are unspecified from then on
(R126). -/
def State.setUninitialised (s : State) : State :=
  { s with inited := false, desync := false, refHz := none, shadow := none }

/-- A transfer of another command failed: `desync <- 1` (R225, R250). -/
def State.setDesync (s : State) : State := { s with desync := true }

end Sys2Proof.Machine
end

