-- ==== Sys2Proof/Machine/Scaler.lean ====
section
/-! DEFINITION. The DDS frequency scaler (41_frequency.md section 1): the exact integer computation the machine runs,
and beside it the exact rational reading of R23, R140 to R142 that it is to equal. -/

namespace Sys2Proof.Machine

/-- `ScaleHz(q, r)` (R143): `floor((q * 2^(29 - FREQ_FRAC) + r) / (2 * r))`, on unbounded integers. -/
def scaleHz (freqFrac q r : Nat) : Nat := (q * 2 ^ (29 - freqFrac) + r) / (2 * r)

/-- `round_half_up(x) = floor(x + 1/2)` (R14). -/
def roundHalfUp (x : ℚ) : Int := ⌊x + 1 / 2⌋

/-- `clk_scaler`, the exact rational `2^28 / ref_hz` (R23). -/
def clkScaler (r : Nat) : ℚ := 2 ^ 28 / (r : ℚ)

/-- `F = q / 2^FREQ_FRAC` Hz (R88). -/
def hertz (freqFrac q : Nat) : ℚ := (q : ℚ) / 2 ^ freqFrac

/-- `clk_scaler` as a function of the state (R23): absent where `ref_hz` is. -/
def State.clkScaler? (s : State) : Option ℚ := s.refHz.map fun r => clkScaler r.toNat

end Sys2Proof.Machine
end

