-- ==== Sys2Proof/Machine/Ops.lean ====
section
/-! DEFINITION. The operations the commands share: the ports, the two ways a command ends in an error (a refusal
before any event, R242, and the abort of a plan at a failed transfer, R225), the two primitives every plan is made of
(R224, R226), and the plans of the frequency write (R145) and of a field write (R190). -/

namespace Sys2Proof.Machine

/-! ### The ports -/

/-- `x` passes at a port. -/
def State.emit (s : State) (x : PortItem) : State := { s with log := s.log ++ [x] }

/-- The port trace (R17): the events of the log, in order. -/
def State.trace (s : State) : List Event :=
  s.log.filterMap fun
    | .event e => some e
    | .command _ => none
    | .answer _ => none
    | .result _ => none

/-- The results given so far (R108), in order. -/
def State.results (s : State) : List Result :=
  s.log.filterMap fun
    | .result r => some r
    | .command _ => none
    | .event _ => none
    | .answer _ => none

/-- The commands accepted so far (R80), in order. -/
def State.commands (s : State) : List CmdWord :=
  s.log.filterMap fun
    | .command c => some c
    | .event _ => none
    | .answer _ => none
    | .result _ => none

/-- The caller presents a command: it waits at the port behind those presented before it, whether or not the block is
busy (R81). An input of the machine, no step of it. -/
def State.present (s : State) (cmd : CmdWord) : State := { s with port := s.port ++ [cmd] }

/-- The transport gives its next answer (R13). An input of the machine, no step of it. -/
def State.supply (s : State) (r : Reply) : State := { s with answers := s.answers ++ [some r] }

/-- A command leaves the port and is accepted (R81). -/
def State.accept (s : State) (cmd : CmdWord) (rest : List CmdWord) : State :=
  { s with port := rest, log := s.log ++ [.command cmd] }

/-- The answer to the next transfer: the first one listed, or, where none is listed, a free draw (I11); none is a
transport that never answers it (I12, R253). -/
def State.nextReply (s : State) : Option Reply :=
  match s.answers with
  | r :: _ => r
  | [] => Config.transportReply s.replyDraws

/-- That answer taken. -/
def State.takeReply (s : State) : State :=
  match s.answers with
  | _ :: rest => { s with answers := rest }
  | [] => { s with replyDraws := s.replyDraws + 1 }

/-! ### How a command ends -/

/-- A REFUSAL (R13 `raise`, R242, R257): the result is given before any event and no register changes. There is no
vector, no saved state and no handler (R257), so nothing returns from it (R258). -/
def State.refuse (s : State) (r : Result) : State := s.emit (.result r)

/-- A command is accepted whose checks pass: its actions become the plan (R27, R290). -/
def State.startPlan (s : State) (plan : List Action) : State := { s with plan := plan }

/-- The plan belongs to an INIT: it ends in INIT's commit (R123). -/
def isInitPlan (plan : List Action) : Bool :=
  plan.any fun
    | .commit (.initOk _) => true
    | .commit (.initFailed _) => true
    | .commit .ok => false
    | .commit (.failed _) => false
    | .setSel _ => false
    | .setRst _ => false
    | .hold => false
    | .xfer _ => false

/-- The failure update that a failed transfer leads to: INIT's (R126) or every other command's (R225). `rest` is what
is left of the plan after the transfer. -/
def failureCommit (rest : List Action) (e : TErr) : Commit :=
  if isInitPlan rest then .initFailed e else .failed e

/-- The plan after a transfer answered `Err(e)` (R225, R290): the select line is still released, every other action is
dropped, and the failure update follows. -/
def abortPlan (p : Params) (rest : List Action) (e : TErr) : List Action :=
  [.setSel (!p.selActive), .commit (failureCommit rest e)]

/-- The state update of a `Commit` (R124, R126, R225), one indivisible update. -/
def State.commitUpdate (s : State) (c : Commit) : State :=
  match c with
  | .initOk f => { s.setInitialised with refHz := some f, shadow := some s.params.initControlWord }
  | .ok => s
  | .initFailed _ => s.setUninitialised
  | .failed _ => s.setDesync

/-- The result a `Commit` returns (R124, R126, R225). -/
def commitResult (c : Commit) : Result :=
  match c with
  | .initOk _ => .ok
  | .ok => .ok
  | .initFailed e => .transportError e
  | .failed e => .transportError e

/-! ### The primitives of every plan -/

/-- `WriteReg(w)` (R224): the framed write of one word. -/
def writeReg (p : Params) (w : Word16) : List Action :=
  [.setSel p.selActive, .xfer w, .setSel (!p.selActive)]

/-- `ResetPulse` (R226). -/
def resetPulse (p : Params) : List Action :=
  [.setRst p.rstActive, .hold, .setRst (!p.rstActive)]

/-! ### The plans -/

/-- INIT's plan (R123). -/
def initPlan (p : Params) (f : BitVec 32) : List Action :=
  resetPulse p ++ writeReg p p.initControlWord ++ [.commit (.initOk f)]

/-- `FreqWriteSeq(ch, W)` (R145) for a shadow `sh`. -/
def freqWritePlan (p : Params) (sh : Word16) (ch : Channel) (w : FreqWord) : List Action :=
  writeReg p (sh ||| p.layout.b28) ++ writeReg p (freqHalfWord p.layout ch (lowHalf w)) ++
    writeReg p (freqHalfWord p.layout ch (highHalf w)) ++ writeReg p sh ++ [.commit .ok]

/-- The plan of one framed write that ends in `OK` (R181, R190). -/
def oneWritePlan (p : Params) (w : Word16) : List Action := writeReg p w ++ [.commit .ok]

/-- RESET's plan (R221). -/
def resetPlan (p : Params) : List Action := resetPulse p ++ [.commit .ok]

/-- `FreqWriteSeq(ch, W)` started (R145): the words are computed from `shadow`, which is not written. -/
def State.startFreqWrite (s : State) (ch : Channel) (w : FreqWord) : Host.Outcome State Fault Refusal :=
  match s.shadow with
  | none => .fault .unspecifiedRead
  | some sh => .next (s.startPlan (freqWritePlan s.params sh ch w))

/-- `FieldSet(mask, val)` (R190): the shadow is updated first, then one transfer of the whole word. -/
def State.fieldSet (s : State) (mask val : Word16) : Host.Outcome State Fault Refusal :=
  match s.shadow with
  | none => .fault .unspecifiedRead
  | some sh =>
    .next ({ s with shadow := some (insertField sh mask val) }.startPlan
      (oneWritePlan s.params (insertField sh mask val)))

end Sys2Proof.Machine
end

