-- ==== Sys2Proof/Machine/Control.lean ====
section
/-! DEFINITION. The control-register field setters (43_control_fields.md). -/

namespace Sys2Proof.Machine

/-- SET_SIGN_OUTPUT (R191). -/
def execSetSignOutput (c : SignCode) (s : State) : Host.Outcome State Fault Refusal :=
  match s.notReady with
  | some r => .next (s.refuse r)
  | none => s.fieldSet s.params.layout.signMask (signVal s.params.layout c)

/-- SET_OUTPUT_MODE (R196). -/
def execSetOutputMode (m : ModeCode) (s : State) : Host.Outcome State Fault Refusal :=
  match s.notReady with
  | some r => .next (s.refuse r)
  | none => s.fieldSet s.params.layout.modeMask (modeVal s.params.layout m)

/-- SET_SLEEP (R201). -/
def execSetSleep (z : SleepCode) (s : State) : Host.Outcome State Fault Refusal :=
  match s.notReady with
  | some r => .next (s.refuse r)
  | none => s.fieldSet s.params.layout.sleepMask (sleepVal s.params.layout z)

/-- SET_OUTPUT_WAVE (R206): the sign and the mode field in one transfer. -/
def execSetOutputWave (k : BitVec 8) (s : State) : Host.Outcome State Fault Refusal :=
  match s.notReady with
  | some r => .next (s.refuse r)
  | none =>
    match waveMap k with
    | none => .next (s.refuse .invalidWaveShape)
    | some (c, m) =>
      s.fieldSet (s.params.layout.signMask ||| s.params.layout.modeMask)
        (signVal s.params.layout c ||| modeVal s.params.layout m)

end Sys2Proof.Machine
end

