-- ==== Sys2Proof/Machine/Frequency.lean ====
section
/-! DEFINITION. SET_FREQUENCY and SET_FREQUENCY_WORD (41_frequency.md). -/

namespace Sys2Proof.Machine

/-- SET_FREQUENCY after its channel check (R150 to R152): the sign, then the scaler, then the fit in 28 bits. No
Nyquist check (R159). -/
def setScaledFrequency (c : Channel) (q : BitVec 48) (s : State) : Host.Outcome State Fault Refusal :=
  if q.toInt < 0 then .next (s.refuse .frequencyOutOfRange)
  else
    match s.refHz with
    | none => .fault .unspecifiedRead
    | some r =>
      if r = 0 then .fault .zeroReferenceClock
      else if 2 ^ 28 ≤ scaleHz s.params.freqFrac q.toInt.toNat r.toNat then .next (s.refuse .frequencyOutOfRange)
      else s.startFreqWrite c (BitVec.ofNat 28 (scaleHz s.params.freqFrac q.toInt.toNat r.toNat))

/-- SET_FREQUENCY (R150). -/
def execSetFrequency (ch : BitVec 8) (q : BitVec 48) (s : State) : Host.Outcome State Fault Refusal :=
  match s.notReady with
  | some r => .next (s.refuse r)
  | none =>
    match channelOf ch with
    | none => .next (s.refuse .invalidChannel)
    | some c => setScaledFrequency c q s

/-- SET_FREQUENCY_WORD (R155, R156): a word with a bit above bit 27 is refused, never masked. -/
def execSetFrequencyWord (ch : BitVec 8) (raw : BitVec 48) (s : State) : Host.Outcome State Fault Refusal :=
  match s.notReady with
  | some r => .next (s.refuse r)
  | none =>
    match channelOf ch with
    | none => .next (s.refuse .invalidChannel)
    | some c =>
      if 2 ^ 28 ≤ raw.toNat then .next (s.refuse .frequencyOutOfRange)
      else s.startFreqWrite c (raw.setWidth 28)

end Sys2Proof.Machine
end

