-- ==== Sys2Proof/Machine/Init.lean ====
section
/-! DEFINITION. INIT (40_init.md). -/

namespace Sys2Proof.Machine

/-- INIT (R122, R123): accepted whatever the flags hold; `f = 0` is refused; else the reset pulse, the initial control
word and `Commit(init_ok(f))`. -/
def execInit (f : BitVec 32) (s : State) : Host.Outcome State Fault Refusal :=
  if f = 0 then .next (s.refuse .invalidReferenceClock)
  else .next (s.startPlan (initPlan s.params f))

end Sys2Proof.Machine
end

