-- ==== Sys2Proof/Machine/Phase.lean ====
section
/-! DEFINITION. SET_PHASE_WORD (42_phase.md). -/

namespace Sys2Proof.Machine

/-- SET_PHASE_WORD (R181): a single tagged write; the shadow is neither read nor written. -/
def execSetPhaseWord (ch : BitVec 8) (w : BitVec 12) (s : State) : Host.Outcome State Fault Refusal :=
  match s.notReady with
  | some r => .next (s.refuse r)
  | none =>
    match channelOf ch with
    | none => .next (s.refuse .invalidChannel)
    | some c => .next (s.startPlan (oneWritePlan s.params (phaseBusWord s.params.layout c w)))

end Sys2Proof.Machine
end

