-- ==== Sys2Proof/Machine/ResetLine.lean ====
section
/-! DEFINITION. RESET (44_reset_and_transfer.md section 1). -/

namespace Sys2Proof.Machine

/-- RESET (R221, R222): the reset-line pulse and nothing else; no transfer, no register written. -/
def execReset (s : State) : Host.Outcome State Fault Refusal :=
  match s.notReady with
  | some r => .next (s.refuse r)
  | none => .next (s.startPlan (resetPlan s.params))

end Sys2Proof.Machine
end

