-- ==== Sys2Proof/Machine/Dispatch.lean ====
section
/-! DEFINITION. One arm per command (30_encoding.md rule R83): what the block does when it accepts the command (R290
`Accept`): it refuses it with a result, or sets the command's plan. -/

namespace Sys2Proof.Machine

def exec (i : Instr) (s : State) : Host.Outcome State Fault Refusal :=
  match i with
  | .init f => Sys2Proof.Machine.execInit f s
  | .setFrequency ch q => Sys2Proof.Machine.execSetFrequency ch q s
  | .setFrequencyWord ch raw => Sys2Proof.Machine.execSetFrequencyWord ch raw s
  | .setPhaseWord ch w => Sys2Proof.Machine.execSetPhaseWord ch w s
  | .setSignOutput c => Sys2Proof.Machine.execSetSignOutput c s
  | .setOutputMode m => Sys2Proof.Machine.execSetOutputMode m s
  | .setSleep z => Sys2Proof.Machine.execSetSleep z s
  | .setOutputWave k => Sys2Proof.Machine.execSetOutputWave k s
  | .reset => Sys2Proof.Machine.execReset s

end Sys2Proof.Machine
end

