-- ==== Sys2Proof/Machine/Perform.lean ====
section
/-! DEFINITION. The micro-steps of 70_reset_and_hazards.md rule R290: `Accept`, which decodes the next command and
runs its meaning, and `Perform`, which does the action at the head of the plan. -/

namespace Sys2Proof.Machine

/-- `SetSel(l)` (R13, R29, R227). -/
def State.performSetSel (s : State) (l : Bool) (rest : List Action) : State :=
  { s with selOut := l, plan := rest, log := s.log ++ [.event (.setSel l)] }

/-- The receiver sees a reset-line pulse end: the line goes from asserted to released (R66). -/
def State.pulseEnds (s : State) (l : Bool) : Bool :=
  s.rstOut == s.params.rstActive && l == !s.params.rstActive

/-- The reset line driven to `l` (R29), and what the receiver makes of it (R66). -/
def State.moveRst (s : State) (l : Bool) : State :=
  if s.pulseEnds l then
    { s with
      rstOut := l
      receiver := s.receiver.pulse s.params s.deviceDraws
      deviceDraws := s.deviceDraws + 1 }
  else { s with rstOut := l }

/-- `SetRst(l)` (R13, R29, R227). -/
def State.performSetRst (s : State) (l : Bool) (rest : List Action) : State :=
  { s.moveRst l with plan := rest, log := s.log ++ [.event (.setRst l)] }

/-- `Hold(RESET_PULSE_MIN)` (R13, R296): the event is recorded; the model carries no time. -/
def State.performHold (s : State) (rest : List Action) : State :=
  { s with plan := rest, log := s.log ++ [.event .hold] }

/-- `Xfer(w)` handed to the transport: the event is recorded, once (R290). -/
def State.handOver (s : State) (w : Word16) : State :=
  if s.awaiting then s else { s with awaiting := true, log := s.log ++ [.event (.xfer w)] }

/-- The receiver has consumed the word `w`, whose transfer answered `Ok` (R67); its clock has run meanwhile. -/
def State.deviceTakes (s : State) (w : Word16) : State :=
  { s with
    receiver := (s.receiver.consume s.params s.deviceDraws w).clockRuns s.deviceDraws
    deviceDraws := s.deviceDraws + 1 }

/-- What the device received is unknown: the transfer answered `Err(e)` (R243, I13). -/
def State.deviceUnknown (s : State) : State :=
  { s with
    receiver := Receiver.anyValue s.params s.deviceDraws
    deviceDraws := s.deviceDraws + 1 }

/-- The transport answered `Ok` (R225): the plan goes on. -/
def State.answeredOk (s : State) (w : Word16) (rest : List Action) : State :=
  { s.deviceTakes w with awaiting := false, plan := rest, log := s.log ++ [.answer .ok] }

/-- The transport answered `Err(e)` (R225): the plan is aborted. -/
def State.answeredErr (s : State) (e : TErr) (rest : List Action) : State :=
  { s.deviceUnknown with
    awaiting := false
    plan := abortPlan s.params rest e
    log := s.log ++ [.answer (.err e)] }

/-- `Xfer(w)` at the head of the plan (R290): hand the word over, then wait for the answer. With no answer the block
waits, the word handed over; a block that already waits has no step enabled (R253). -/
def State.performXfer (s : State) (w : Word16) (rest : List Action) : Host.Outcome State Fault Refusal :=
  match s.nextReply with
  | some .ok => .next ((s.handOver w).takeReply.answeredOk w rest)
  | some (.err e) => .next ((s.handOver w).takeReply.answeredErr e rest)
  | none => if s.awaiting then .fault .transportSilent else .next (s.handOver w)

/-- `Commit(c)` (R290): its state update and its result. -/
def State.performCommit (s : State) (c : Commit) (rest : List Action) : State :=
  { s.commitUpdate c with plan := rest, log := s.log ++ [.result (commitResult c)] }

/-- `Perform` (R290): the action `a` at the head of the plan `a :: rest`. -/
def perform (a : Action) (rest : List Action) (s : State) : Host.Outcome State Fault Refusal :=
  match a with
  | .setSel l => .next (s.performSetSel l rest)
  | .setRst l => .next (s.performSetRst l rest)
  | .hold => .next (s.performHold rest)
  | .xfer w => s.performXfer w rest
  | .commit c => .next (s.performCommit c rest)

/-- `Accept` (R290) of the command word `cmd`, with `rest` behind it at the port: decode it (R107), then run its
meaning; a word that spells no command ends in `IllegalCommand`, whatever the state (R85, R86, R245). -/
def acceptCommand (cmd : CmdWord) (rest : List CmdWord) (s : State) : Host.Outcome State Fault Refusal :=
  match decode s.params cmd with
  | .error _ => .next ((s.accept cmd rest).refuse .illegalCommand)
  | .ok i => exec i (s.accept cmd rest)

/-- One micro-step (R290). A block with an empty plan and no command at its port waits, unchanged (R280, R292). -/
def microStep (s : State) : Host.Outcome State Fault Refusal :=
  match s.plan with
  | a :: rest => perform a rest s
  | [] =>
    match s.port with
    | [] => .next s
    | cmd :: rest => acceptCommand cmd rest s

/-- A command word placed so that the next step accepts it: first at the port of an idle block. -/
def State.placeCommand (s : State) (cmd : CmdWord) : State :=
  { s with plan := [], awaiting := false, port := cmd :: s.port }

end Sys2Proof.Machine
end

