-- ==== Sys2Proof/Machine/Step.lean ====
section
/-! DEFINITION. The step of the machine, one micro-step of R290, and the placing of one command for it. -/

namespace Sys2Proof.Machine

/-- One step: one micro-step of R290. -/
def step (s : State) : Host.Outcome State Fault Refusal := microStep s

/-- `s` with the instruction of `nbits` bits whose value is `w` first at the command port of an idle block, so that the
next step accepts it (R81, R290). -/
def State.withFetchWord (s : State) (nbits w : Nat) : State :=
  s.placeCommand (BitVec.ofNat 64 (w % 2 ^ nbits))

end Sys2Proof.Machine
end

