-- ==== Sys2Proof/Machine/Assembler.lean ====
section
/-! DEFINITION. The assembler of 30_encoding.md rules R105 and R106: one command a line, the operands separated by
commas. It is no part of the block; it says which command word each line of the spec's notation stands for. It never
rounds: a frequency that is not exactly `q / 2^FREQ_FRAC` is refused (R105, I24). -/

namespace Sys2Proof.Machine

/-- A decimal number with an optional sign and fraction, as written: `digits / 10^places`, negated if `neg`. -/
structure HzLiteral where
  neg : Bool
  digits : Nat
  places : Nat
deriving DecidableEq, Repr

/-- A line of the assembler (R105), its operands read as numbers and codes. -/
inductive AsmLine where
  | init (refHz : Nat)
  | setfreq (ch : Nat) (hz : HzLiteral)
  | setfreqw (ch word : Nat)
  | setphase (ch word : Nat)
  | setsign (c : SignCode)
  | setmode (m : ModeCode)
  | setsleep (z : SleepCode)
  | setwave (shape : Nat)
  | reset
deriving DecidableEq, Repr

/-- The operand `q` of a frequency literal: the integer with `hz = q / 2^FREQ_FRAC`, in the range of `FREQ_IN_W` bits,
or none (R105). -/
def HzLiteral.operand (p : Params) (h : HzLiteral) : Option Int :=
  if h.digits * 2 ^ p.freqFrac % 10 ^ h.places ≠ 0 then none
  else
    let n : Nat := h.digits * 2 ^ p.freqFrac / 10 ^ h.places
    let q : Int := if h.neg then -(n : Int) else n
    if -(2 ^ (p.freqInW - 1) : Int) ≤ q ∧ q < 2 ^ (p.freqInW - 1) then some q else none

/-- `v` if it lies below `bound`. -/
def below (bound v : Nat) : Option Nat := if v < bound then some v else none

/-- The instruction a line stands for, or none where an operand is out of the range R105 gives it. -/
def AsmLine.instr (p : Params) : AsmLine → Option Instr
  | .init f => (below (2 ^ p.refclkW) f).map fun f => .init (BitVec.ofNat 32 f)
  | .setfreq ch hz => (below 256 ch).bind fun ch => (hz.operand p).map fun q =>
      .setFrequency (BitVec.ofNat 8 ch) (BitVec.ofInt 48 q)
  | .setfreqw ch w => (below 256 ch).bind fun ch => (below (2 ^ 48) w).map fun w =>
      .setFrequencyWord (BitVec.ofNat 8 ch) (BitVec.ofNat 48 w)
  | .setphase ch w => (below 256 ch).bind fun ch => (below (2 ^ p.phaseW) w).map fun w =>
      .setPhaseWord (BitVec.ofNat 8 ch) (BitVec.ofNat 12 w)
  | .setsign c => some (.setSignOutput c)
  | .setmode m => some (.setOutputMode m)
  | .setsleep z => some (.setSleep z)
  | .setwave k => (below 256 k).map fun k => .setOutputWave (BitVec.ofNat 8 k)
  | .reset => some .reset

/-- The command word of a line (R105). -/
def assemble (p : Params) (l : AsmLine) : Option CmdWord := (l.instr p).map encode

/-! ### Reading a line of text -/

/-- The value of a hexadecimal digit. -/
def digitValue (c : Char) : Option Nat :=
  if '0' ≤ c ∧ c ≤ '9' then some (c.toNat - 48)
  else if 'a' ≤ c ∧ c ≤ 'f' then some (c.toNat - 87)
  else if 'A' ≤ c ∧ c ≤ 'F' then some (c.toNat - 55)
  else none

/-- The digits `cs` in base `base` after the number `acc`. -/
def readDigits (base : Nat) : Nat → List Char → Option Nat
  | acc, [] => some acc
  | acc, c :: cs => (digitValue c).bind fun d => if d < base then readDigits base (acc * base + d) cs else none

/-- An integer, decimal or `0x` hexadecimal (R105). -/
def readNat : List Char → Option Nat
  | [] => none
  | '0' :: 'x' :: c :: cs => readDigits 16 0 (c :: cs)
  | c :: cs => readDigits 10 0 (c :: cs)

/-- The text before the first `sep`, and the text after it where there is one. -/
def splitFirst (sep : Char) : List Char → List Char × Option (List Char)
  | [] => ([], none)
  | c :: cs => if c = sep then ([], some cs) else ((c :: (splitFirst sep cs).1), (splitFirst sep cs).2)

/-- An unsigned decimal number with an optional fraction. -/
def readUnsignedHz (neg : Bool) (cs : List Char) : Option HzLiteral :=
  match splitFirst '.' cs with
  | ([], _) => none
  | (whole, none) => (readDigits 10 0 whole).map fun n => ⟨neg, n, 0⟩
  | (_, some []) => none
  | (whole, some frac) => (readDigits 10 0 (whole ++ frac)).map fun n => ⟨neg, n, frac.length⟩

/-- A decimal number with an optional sign and fraction (R105). -/
def readHz : List Char → Option HzLiteral
  | '-' :: cs => readUnsignedHz true cs
  | '+' :: cs => readUnsignedHz false cs
  | cs => readUnsignedHz false cs

/-- The text without leading spaces. -/
def dropSpaces : List Char → List Char
  | [] => []
  | c :: cs => if c = ' ' then dropSpaces cs else c :: cs

/-- The text without leading and trailing spaces. -/
def trimSpaces (cs : List Char) : List Char := (dropSpaces (dropSpaces cs).reverse).reverse

/-- The two operands of a line, separated by a comma. -/
def twoOperands (cs : List Char) : Option (List Char × List Char) :=
  match splitFirst ',' cs with
  | (a, some b) => some (trimSpaces a, trimSpaces b)
  | (_, none) => none

/-- The sign code a word names (R105). -/
def readSign (cs : List Char) : Option SignCode :=
  if cs = ['n', 'o', 'n', 'e'] then some .off
  else if cs = ['m', 's', 'b'] then some .msb
  else if cs = ['m', 's', 'b', '2'] then some .msb2
  else if cs = ['c', 'o', 'm', 'p', 'a', 'r', 'a', 't', 'o', 'r'] then some .comparator
  else none

/-- The mode code a word names (R105). -/
def readMode (cs : List Char) : Option ModeCode :=
  if cs = ['s', 'i', 'n', 'e'] then some .sine
  else if cs = ['t', 'r', 'i', 'a', 'n', 'g', 'l', 'e'] then some .triangle
  else none

/-- The sleep code a word names (R105). -/
def readSleep (cs : List Char) : Option SleepCode :=
  if cs = ['n', 'o', 'n', 'e'] then some .off
  else if cs = ['m', 'c', 'l', 'k'] then some .mclk
  else if cs = ['d', 'a', 'c'] then some .dac
  else if cs = ['a', 'l', 'l'] then some .all
  else none

/-- The shape an operand names: a number, or one of the pseudo-forms `sine`, `triangle`, `square` (R106). -/
def readShape (cs : List Char) : Option Nat :=
  if cs = ['s', 'i', 'n', 'e'] then some 0
  else if cs = ['t', 'r', 'i', 'a', 'n', 'g', 'l', 'e'] then some 1
  else if cs = ['s', 'q', 'u', 'a', 'r', 'e'] then some 2
  else readNat cs

/-- A line with the mnemonic `m` and the operand text `ops` (R105). -/
def readCommand (m ops : List Char) : Option AsmLine :=
  if m = ['i', 'n', 'i', 't'] then (readNat ops).map .init
  else if m = ['s', 'e', 't', 'f', 'r', 'e', 'q'] then
    (twoOperands ops).bind fun (a, b) => (readNat a).bind fun ch => (readHz b).map (.setfreq ch)
  else if m = ['s', 'e', 't', 'f', 'r', 'e', 'q', 'w'] then
    (twoOperands ops).bind fun (a, b) => (readNat a).bind fun ch => (readNat b).map (.setfreqw ch)
  else if m = ['s', 'e', 't', 'p', 'h', 'a', 's', 'e'] then
    (twoOperands ops).bind fun (a, b) => (readNat a).bind fun ch => (readNat b).map (.setphase ch)
  else if m = ['s', 'e', 't', 's', 'i', 'g', 'n'] then (readSign ops).map .setsign
  else if m = ['s', 'e', 't', 'm', 'o', 'd', 'e'] then (readMode ops).map .setmode
  else if m = ['s', 'e', 't', 's', 'l', 'e', 'e', 'p'] then (readSleep ops).map .setsleep
  else if m = ['s', 'e', 't', 'w', 'a', 'v', 'e'] then (readShape ops).map .setwave
  else if m = ['r', 'e', 's', 'e', 't'] then if ops = [] then some .reset else none
  else none

/-- A line of text read (R105). -/
def readLine (line : List Char) : Option AsmLine :=
  match splitFirst ' ' (trimSpaces line) with
  | (m, none) => readCommand m []
  | (m, some ops) => readCommand m (trimSpaces ops)

/-- The command word of a line of text (R105, R106). -/
def assembleText (p : Params) (line : List Char) : Option CmdWord := (readLine line).bind (assemble p)

end Sys2Proof.Machine
end

