-- ==== Sys2Proof/Machine/BigStep.lean ====
section
/-! DEFINITION. The big-step view of 70_reset_and_hazards.md rule R291: one command run to its end on a list of
transport answers, giving the state, the events and the result. The machine's step is the micro-step; that the two views
agree is a statement of Certificates/Slice0. -/

namespace Sys2Proof.Machine

/-- What one command does (R291): `exec(state, cmd, answers) -> (state', events, result)`, and the answers it did not
consume. -/
structure CommandRun where
  state : State
  events : List Event
  result : Result
  left : List (Option Reply)
deriving DecidableEq, Repr

/-- The same run with the event `e` before it. -/
def CommandRun.after (e : Event) (r : CommandRun) : CommandRun := { r with events := e :: r.events }

/-- A plan performed to its end, or to its first failed transfer (R225, R254). None: a transfer
is never answered, so the block is stuck in it (R253), or the list ends in no `Commit` and is no command's plan. -/
def runPlan : List Action → List (Option Reply) → State → Option CommandRun
  | [], _, _ => none
  | .setSel l :: rest, as, s => (runPlan rest as { s with selOut := l }).map (.after (.setSel l))
  | .setRst l :: rest, as, s => (runPlan rest as (s.moveRst l)).map (.after (.setRst l))
  | .hold :: rest, as, s => (runPlan rest as s).map (.after .hold)
  | .xfer _ :: _, [], _ => none
  | .xfer _ :: _, none :: _, _ => none
  | .xfer w :: rest, some .ok :: as, s => (runPlan rest as (s.deviceTakes w)).map (.after (.xfer w))
  | .xfer w :: rest, some (.err e) :: as, s =>
    some {
      state := { s.deviceUnknown with selOut := !s.params.selActive }.commitUpdate (failureCommit rest e)
      events := [.xfer w, .setSel (!s.params.selActive)]
      result := .transportError e
      left := as }
  | .commit c :: _, as, s => some { state := s.commitUpdate c, events := [], result := commitResult c, left := as }

/-- A command run to its end (R291): refused with a result, no event and no change, or its plan performed. -/
def runCommand (s : State) (cmd : CmdWord) (as : List (Option Reply)) : Option CommandRun :=
  match decode s.params cmd with
  | .error _ => some { state := s, events := [], result := .illegalCommand, left := as }
  | .ok i =>
    match exec i { s with log := [] } with
    | .next t =>
      match t.results with
      | r :: _ => some { state := s, events := [], result := r, left := as }
      | [] => runPlan t.plan as { t with plan := s.plan, log := s.log }
    | .fault _ => none
    | .refused _ => none

end Sys2Proof.Machine
end

