-- ==== Sys2Proof/Safety.lean ====
section
/-! DEFINITION. What counts as a safe state and a safe run, in the terms the statements use: the invariants of
10_state.md section 2, the shape of a plan (R224, R226, R294), the kinds of bus word (R101), the correspondence of the
shadow with the device (R67), and the timing obligation of a hold (R295). -/

namespace Sys2Proof.Machine

/-- R30: the shadow of an initialised block. -/
def State.ShadowOk (s : State) : Prop :=
  s.inited = true → ∃ sh, s.shadow = some sh ∧ tagBits sh = 0 ∧ sh &&& s.params.layout.b28 = 0 ∧
    sh &&& ~~~(s.params.layout.signMask ||| s.params.layout.modeMask ||| s.params.layout.sleepMask) =
      s.params.initControlWord &&&
        ~~~(s.params.layout.signMask ||| s.params.layout.modeMask ||| s.params.layout.sleepMask)

/-- R32: the reference clock of an initialised block. -/
def State.ClockOk (s : State) : Prop :=
  s.inited = true → ∃ r, s.refHz = some r ∧ r ≠ 0

/-- R31: both lines are released. -/
def State.LinesReleased (s : State) : Prop :=
  s.selOut = !s.params.selActive ∧ s.rstOut = !s.params.rstActive

/-- A `Commit` a plan may end in: INIT's carries a non-zero clock (R122). -/
def commitAllowed : Commit → Bool
  | .initOk f => f ≠ 0
  | .ok => true
  | .initFailed _ => true
  | .failed _ => true

/-- The shape of what is left of a plan, from line levels `sel` and `rst`: it ends in one `Commit` with both lines
released (R27, R31); the reset line moves and is held only with the select line released (R226); each word goes out
with the select line asserted and the reset line released, and the select line is released right after it (R224,
R294). -/
def planShape (p : Params) : Bool → Bool → List Action → Bool
  | _, _, [] => false
  | sel, rst, [.commit c] => sel == !p.selActive && rst == !p.rstActive && commitAllowed c
  | _, _, .commit _ :: _ :: _ => false
  | _, rst, .setSel l :: rest => rst == !p.rstActive && planShape p l rst rest
  | sel, _, .setRst l :: rest => sel == !p.selActive && planShape p sel l rest
  | sel, rst, .hold :: rest => sel == !p.selActive && rst == p.rstActive && planShape p sel rst rest
  | sel, rst, .xfer _ :: rest =>
    sel == p.selActive && rst == !p.rstActive && rest.head? == some (.setSel (!p.selActive)) && planShape p sel rst rest

/-- R31 between commands, and during a command the shape of what is left of its plan. -/
def State.PlanOk (s : State) : Prop :=
  (s.plan = [] → s.LinesReleased) ∧ (s.plan ≠ [] → planShape s.params s.selOut s.rstOut s.plan = true)

/-- The block waits for an answer only in a transfer (R290). -/
def State.AwaitingOk (s : State) : Prop :=
  s.awaiting = true → ∃ w rest, s.plan = .xfer w :: rest

/-- `desync` is set in an initialised block only (R250, R251, R126), and only an initialised block performs a plan that
is not INIT's (R244). -/
def State.FlagsOk (s : State) : Prop :=
  (s.desync = true → s.inited = true) ∧ (s.plan ≠ [] → isInitPlan s.plan = false → s.inited = true)

/-- The invariant of the block: R30, R31, R32 and what they rest on. -/
def State.Inv (s : State) : Prop :=
  s.params.Ok ∧ s.ShadowOk ∧ s.ClockOk ∧ s.PlanOk ∧ s.AwaitingOk ∧ s.FlagsOk

/-- The block is idle: between commands (R31, R292). -/
def State.Idle (s : State) : Prop := s.plan = [] ∧ s.awaiting = false

/-- A block that accepts every well-formed command (R255, steps 3 and 4 passed). -/
def State.Ready (s : State) : Prop := s.inited = true ∧ s.desync = false

/-- R67: the device holds the shadow as its control register and no half of a pair. -/
def State.Corresponds (s : State) : Prop :=
  s.inited = true → s.desync = false → s.shadow = some s.receiver.ctrl ∧ s.receiver.pend = none

/-- Every command accepted has had one result, but for the one whose plan is not finished (R80, R108, R256). -/
def State.ResultsCounted (s : State) : Prop :=
  s.commands.length = s.results.length + (if s.plan = [] then 0 else 1)

/-- The words of the transfers of a plan, in order. -/
def planWords (plan : List Action) : List Word16 :=
  plan.filterMap fun
    | .xfer w => some w
    | .setSel _ => none
    | .setRst _ => none
    | .hold => none
    | .commit _ => none

/-- One of the four kinds of bus word the block emits, for a shadow `sh` (R101). -/
def BusWordKind (p : Params) (sh : Option Word16) (w : Word16) : Prop :=
  (w = p.initControlWord ∨ sh = some w ∨ ∃ v, sh = some v ∧ w = v ||| p.layout.b28) ∨
  (∃ ch half, w = freqHalfWord p.layout ch half) ∨
  (∃ ch v, v.toNat < 2 ^ p.phaseW ∧ w = phaseBusWord p.layout ch v)

/-- The shadow field a command writes, as a mask and the value put there (R191, R196, R201, R206); none for a command
that writes no field, and for a shape outside 0 to 2. -/
def fieldWritten (l : CtrlLayout) : Instr → Option (Word16 × Word16)
  | .init _ => none
  | .setFrequency _ _ => none
  | .setFrequencyWord _ _ => none
  | .setPhaseWord _ _ => none
  | .setSignOutput c => some (l.signMask, signVal l c)
  | .setOutputMode m => some (l.modeMask, modeVal l m)
  | .setSleep z => some (l.sleepMask, sleepVal l z)
  | .setOutputWave k => (waveMap k).map fun sm => (l.signMask ||| l.modeMask, signVal l sm.1 ||| modeVal l sm.2)
  | .reset => none

/-- The command word `w` has these fields (R82), and `rsv` zero. -/
def HasFields (w : CmdWord) (op : BitVec 4) (sel : BitVec 8) (data : BitVec 48) : Prop :=
  w.op = op ∧ w.sel = sel ∧ w.rsv = 0 ∧ w.data = data

/-- `Wr(w)` of 95_test_vectors.md: the events of one framed word (R224). -/
def wrEvents (p : Params) (w : Word16) : List Event := [.setSel p.selActive, .xfer w, .setSel (!p.selActive)]

/-- `RP` of 95_test_vectors.md: the events of one reset-line pulse (R226). -/
def pulseEvents (p : Params) : List Event := [.setRst p.rstActive, .hold, .setRst (!p.rstActive)]

/-- The four words of a frequency write, in order (R145). -/
def freqWords (p : Params) (sh : Word16) (ch : Channel) (w : FreqWord) : List Word16 :=
  [sh ||| p.layout.b28, tagFreq p.layout ch ||| (w.extractLsb' 0 14).setWidth 16,
    tagFreq p.layout ch ||| (w.extractLsb' 14 14).setWidth 16, sh]

/-- R295, R296, I3: in a trace whose events carry their times, at least `RESET_PULSE_MIN` elapses between a hold and
the next event. An obligation on the block's timing; no step of the model carries time. -/
def HoldsRespected : List (Event × Nat) → Prop
  | [] => True
  | [_] => True
  | (e, t) :: (e', t') :: rest =>
    (e = .hold → t + Config.resetPulseMin ≤ t') ∧ HoldsRespected ((e', t') :: rest)

end Sys2Proof.Machine
end

