-- ==== Sys2Proof/Certificates/Slice0/Obligations.lean ====
section
/-! DEFINITION. The statements for the provers. Each docstring names the rule of spec/ it formalises. A statement about
a run uses Host.Core.run on Sys2Proof.core. Where a statement needs the transport's answers it takes them from the list
`State.answers`, which a state may hold with any value; no statement rests on a free draw or on the reset value of the
receiver. -/

open Sys2Proof Sys2Proof.Machine

/-! ### Encoding -/

/-- R107 with R82, R83: decoding the encoding of a well-formed command gives it back, for all parameters, commands and
operands. -/
def Obligations.DecodeEncodeRoundTrip : Prop :=
  ∀ (p : Params) (i : Instr), p.Ok → i.wf p = true → decode p (encode i) = .ok i

/-- R107, R83: a word that decodes is the encoding of the well-formed command it decodes to. That for `REFCLK_W` below
32 the bits from `REFCLK_W` to 31 of an INIT must be zero is the model's choice (log entry 14). -/
def Obligations.EncodeDecodeRoundTrip : Prop :=
  ∀ (p : Params) (w : CmdWord) (i : Instr), p.Ok → decode p w = .ok i → i.wf p = true ∧ encode i = w

/-- R84: the two forms of "well formed" agree, the decoder accepts exactly such words (for SET_FREQUENCY with the
further check of R88), and any other word is refused with `IllegalCommand`. That for `REFCLK_W` below 32 the bits from
`REFCLK_W` to 31 of an INIT are among the must-be-zero fields is the model's choice (log entry 14). -/
def Obligations.WellFormedWordIsMaskMatch : Prop :=
  ∀ (p : Params) (w : CmdWord), p.Ok →
    (fieldsZero p w = true ↔ matchesRow p w = true) ∧
    ((∃ i, decode p w = .ok i) ↔ (fieldsZero p w = true ∧ (w.op = 2 → signExtended p.freqInW w.data = true))) ∧
    (∀ (s : State) (ps : List CmdWord), s.params = p → s.plan = [] → s.port = w :: ps → (∀ i, decode p w ≠ .ok i) →
      step s = .next { s with port := ps, log := s.log ++ [.command w, .result .illegalCommand] })

/-- R85: a reserved opcode ends in `IllegalCommand` with no event and no state change, whatever the state holds. -/
def Obligations.ReservedOpcodeRefused : Prop :=
  ∀ (s : State) (w : CmdWord) (ps : List CmdWord), s.plan = [] → s.port = w :: ps →
    (w.extractLsb' 60 4 = 0 ∨ 0xA ≤ (w.extractLsb' 60 4).toNat) →
    ∃ t, step s = .next t ∧ t = { s with port := ps, log := t.log } ∧ t.trace = s.trace ∧
      t.results = s.results ++ [.illegalCommand] ∧ t.commands = s.commands ++ [w]

/-- R86: a defined opcode with a bit set in a must-be-zero field ends in `IllegalCommand` with no event and no state
change, whatever the state holds. That for `REFCLK_W` below 32 the bits from `REFCLK_W` to 31 of an INIT are such a
field is the model's choice (log entry 14). -/
def Obligations.MustBeZeroBitRefused : Prop :=
  ∀ (s : State) (w : CmdWord) (ps : List CmdWord), s.plan = [] → s.port = w :: ps → s.params.Ok →
    1 ≤ w.op.toNat → w.op.toNat ≤ 9 → fieldsZero s.params w = false →
    ∃ t, step s = .next t ∧ t = { s with port := ps, log := t.log } ∧ t.trace = s.trace ∧
      t.results = s.results ++ [.illegalCommand] ∧ t.commands = s.commands ++ [w]

/-- Words written out from R82 and R83 decode to the commands they stand for (sanity). -/
def Obligations.WrittenWordsDecode : Prop :=
  decode Params.default 0x10000000017D7840 = .ok (.init 25000000) ∧
  decode Params.default 0x2010000003E80000 = .ok (.setFrequency 1 0x3E80000) ∧
  decode Params.default 0x4010000000000800 = .ok (.setPhaseWord 1 0x800) ∧
  decode Params.default 0x5030000000000000 = .ok (.setSignOutput .comparator) ∧
  decode Params.default 0x9000000000000000 = .ok .reset

/-! ### The step -/

/-- R290 `Accept`: an idle block with a command at its port runs the meaning of the command it decodes to, the command
taken from the port; with no command it waits unchanged (a step that changes nothing: log entry 9). -/
def Obligations.StepRunsDecodedCommand : Prop :=
  (∀ (s : State) (w : CmdWord) (ps : List CmdWord) (i : Instr), s.plan = [] → s.port = w :: ps →
    decode s.params w = .ok i → step s = exec i { s with port := ps, log := s.log ++ [.command w] }) ∧
  (∀ s : State, s.plan = [] → s.port = [] → step s = .next s)

/-- R59, R81: a busy block accepts nothing, and a command presented while a step runs is held behind the others: it
changes nothing else of that step. -/
def Obligations.BusyBlockHoldsCommands : Prop :=
  (∀ s t : State, s.plan ≠ [] → step s = .next t → t.port = s.port ∧ t.commands = s.commands) ∧
  (∀ (s t : State) (c : CmdWord), s.plan ≠ [] ∨ s.port ≠ [] → step s = .next t →
    step (s.present c) = .next (t.present c))

/-- R58: what has passed at the ports is never taken back: each step only adds to the log. The log is the model's own
record of the ports (log entry 12). -/
def Obligations.LogOnlyGrows : Prop :=
  ∀ s t : State, step s = .next t → ∃ added, t.log = s.log ++ added ∧ added.length ≤ 2

/-- No step changes the parameters (R10: arguments of the model). That they travel in the state is the model's choice
(log entry 1). -/
def Obligations.StepKeepsParams : Prop :=
  ∀ s t : State, step s = .next t → t.params = s.params

/-- R60: no rule of the block reads the receiver: with another receiver a step does the same, but for the receiver. -/
def Obligations.BlockNeverReadsReceiver : Prop :=
  ∀ (s : State) (r : Receiver),
    (∀ t, step s = .next t → ∃ r', step { s with receiver := r } = .next { t with receiver := r' }) ∧
    (∀ f, step s = .fault f → step { s with receiver := r } = .fault f)

/-! ### Refusals -/

/-- R244: every command but INIT is refused while the block is not initialised. -/
def Obligations.NotInitialisedRefused : Prop :=
  ∀ (i : Instr) (s : State), (∀ f, i ≠ .init f) → s.inited = false →
    exec i s = .next { s with log := s.log ++ [.result .notInitialised] }

/-- R251: every command but INIT is refused while the device's state is unknown. -/
def Obligations.DeviceStateUnknownRefused : Prop :=
  ∀ (i : Instr) (s : State), (∀ f, i ≠ .init f) → s.inited = true → s.desync = true →
    exec i s = .next { s with log := s.log ++ [.result .deviceStateUnknown] }

/-- R122: INIT makes one check, whatever the flags hold; a zero clock is refused with no event and no state change, and
no other value is refused. -/
def Obligations.InitRefusesOnlyZeroClock : Prop :=
  ∀ s : State,
    exec (.init 0) s = .next { s with log := s.log ++ [.result .invalidReferenceClock] } ∧
    ∀ f, f ≠ 0 → ∃ t, exec (.init f) s = .next t ∧ t = { s with plan := t.plan } ∧ t.plan ≠ []

/-- R246: the three commands with a channel refuse a channel of 2 or more, whatever their other operand. -/
def Obligations.BadChannelRefused : Prop :=
  ∀ (s : State) (ch : BitVec 8), s.inited = true → s.desync = false → 2 ≤ ch.toNat →
    (∀ q, exec (.setFrequency ch q) s = .next { s with log := s.log ++ [.result .invalidChannel] }) ∧
    (∀ raw, exec (.setFrequencyWord ch raw) s = .next { s with log := s.log ++ [.result .invalidChannel] }) ∧
    (∀ w, exec (.setPhaseWord ch w) s = .next { s with log := s.log ++ [.result .invalidChannel] })

/-- R247: SET_OUTPUT_WAVE refuses a shape of 3 or more. -/
def Obligations.BadShapeRefused : Prop :=
  ∀ (s : State) (k : BitVec 8), s.inited = true → s.desync = false → 3 ≤ k.toNat →
    exec (.setOutputWave k) s = .next { s with log := s.log ++ [.result .invalidWaveShape] }

/-- R248: a negative frequency, a scaled word of 2^28 or more, and a raw word with a bit above bit 27 are refused. -/
def Obligations.FrequencyOutOfRangeRefused : Prop :=
  ∀ (s : State) (ch : BitVec 8), s.inited = true → s.desync = false → ch.toNat < 2 →
    (∀ q : BitVec 48, q.toInt < 0 →
      exec (.setFrequency ch q) s = .next { s with log := s.log ++ [.result .frequencyOutOfRange] }) ∧
    (∀ (q : BitVec 48) (r : BitVec 32), 0 ≤ q.toInt → s.refHz = some r → r ≠ 0 →
      2 ^ 28 ≤ (q.toInt.toNat * 2 ^ (29 - s.params.freqFrac) + r.toNat) / (2 * r.toNat) →
      exec (.setFrequency ch q) s = .next { s with log := s.log ++ [.result .frequencyOutOfRange] }) ∧
    (∀ raw : BitVec 48, raw.extractLsb' 28 20 ≠ 0 →
      exec (.setFrequencyWord ch raw) s = .next { s with log := s.log ++ [.result .frequencyOutOfRange] })

/-- R242: an error other than `TransportError` is given in the step that accepts the command, with no event and no
change of state but the command taken and the result given; a step that performs an action gives no such error. -/
def Obligations.RefusalsArePrecise : Prop :=
  (∀ s t : State, s.plan = [] → step s = .next t → t.results ≠ s.results →
    ∃ r cmd ps, s.port = cmd :: ps ∧ r ≠ .ok ∧ (∀ e, r ≠ .transportError e) ∧
      t = { s with port := ps, log := s.log ++ [.command cmd, .result r] } ∧ t.trace = s.trace) ∧
  (∀ s t : State, s.plan ≠ [] → step s = .next t →
    t.results = s.results ∨ t.results = s.results ++ [.ok] ∨ ∃ e, t.results = s.results ++ [.transportError e])

/-- R108: the code of each result; codes 9 to 15 are never produced; the transport's error alone has a payload. -/
def Obligations.ResultCodes : Prop :=
  (Result.ok.code = 0 ∧ Result.invalidChannel.code = 1 ∧ Result.invalidWaveShape.code = 2 ∧
    Result.frequencyOutOfRange.code = 3 ∧ (∀ e, (Result.transportError e).code = 4) ∧ Result.illegalCommand.code = 5 ∧
    Result.notInitialised.code = 6 ∧ Result.invalidReferenceClock.code = 7 ∧ Result.deviceStateUnknown.code = 8) ∧
  (∀ r : Result, r.code.toNat ≤ 8) ∧
  (∀ (r : Result) (e : TErr), r.payload = some e ↔ r = .transportError e)

/-! ### The commands run to their end -/

/-- R123, R124: INIT with a non-zero clock sets its plan, and with its transfer answered `Ok` ends in `OK` with the
clock, the shadow and the flags written, after the pulse and the one word; nothing else of the block changes. -/
def Obligations.InitCompletes : Prop :=
  ∀ (s : State) (f : BitVec 32) (as : List (Option Reply)), s.awaiting = false → f ≠ 0 → s.answers = some .ok :: as →
    ∃ t u : State, exec (.init f) s = .next t ∧
      t = { s with plan := [.setRst s.params.rstActive, .hold, .setRst (!s.params.rstActive),
        .setSel s.params.selActive, .xfer s.params.initControlWord, .setSel (!s.params.selActive),
        .commit (.initOk f)] } ∧
      Host.Core.run Sys2Proof.core 7 t = .next u ∧
      u = { s with
        inited := true, desync := false, refHz := some f, shadow := some s.params.initControlWord, plan := [],
        selOut := !s.params.selActive, rstOut := !s.params.rstActive, answers := as,
        log := u.log, receiver := u.receiver, deviceDraws := u.deviceDraws } ∧
      u.trace = s.trace ++ pulseEvents s.params ++ wrEvents s.params s.params.initControlWord ∧
      u.results = s.results ++ [.ok]

/-- R126: INIT whose transfer answers `Err(e)` ends in `TransportError(e)`, the block uninitialised, `desync` clear,
the clock and the shadow unspecified, the select line released. -/
def Obligations.InitFails : Prop :=
  ∀ (s : State) (f : BitVec 32) (e : TErr) (as : List (Option Reply)), s.awaiting = false → f ≠ 0 →
    s.answers = some (.err e) :: as →
    ∃ t u : State, exec (.init f) s = .next t ∧ Host.Core.run Sys2Proof.core 7 t = .next u ∧
      u = { s with
        inited := false, desync := false, refHz := none, shadow := none, plan := [],
        selOut := !s.params.selActive, rstOut := !s.params.rstActive, answers := as,
        log := u.log, receiver := u.receiver, deviceDraws := u.deviceDraws } ∧
      u.trace = s.trace ++ pulseEvents s.params ++ wrEvents s.params s.params.initControlWord ∧
      u.results = s.results ++ [.transportError e]

/-- R150, R145, R146: SET_FREQUENCY in a ready block, on a channel, a non-negative frequency and a scaled word that
fits, sets the plan of the four words, and with the four transfers answered `Ok` ends in `OK`: exactly those four
words, and no register of the block changes. -/
def Obligations.SetFrequencyCompletes : Prop :=
  ∀ (s : State) (ch : BitVec 8) (c : Channel) (q : BitVec 48) (r : BitVec 32) (sh : Word16)
    (as : List (Option Reply)),
    s.awaiting = false → s.inited = true → s.desync = false →
    ((ch = 0 ∧ c = .ch0) ∨ (ch = 1 ∧ c = .ch1)) → 0 ≤ q.toInt → s.refHz = some r → r ≠ 0 → s.shadow = some sh →
    (q.toInt.toNat * 2 ^ (29 - s.params.freqFrac) + r.toNat) / (2 * r.toNat) < 2 ^ 28 →
    s.answers = [some .ok, some .ok, some .ok, some .ok] ++ as →
    let w := BitVec.ofNat 28 ((q.toInt.toNat * 2 ^ (29 - s.params.freqFrac) + r.toNat) / (2 * r.toNat))
    ∃ t u : State, exec (.setFrequency ch q) s = .next t ∧
      t = { s with plan := (freqWords s.params sh c w).flatMap (writeReg s.params) ++ [.commit .ok] } ∧
      Host.Core.run Sys2Proof.core 13 t = .next u ∧
      u = { s with
        plan := [], selOut := !s.params.selActive, answers := as,
        log := u.log, receiver := u.receiver, deviceDraws := u.deviceDraws } ∧
      u.trace = s.trace ++ (freqWords s.params sh c w).flatMap (wrEvents s.params) ∧
      u.results = s.results ++ [.ok]

/-- R155, R145, R146: SET_FREQUENCY_WORD in a ready block, on a channel and a word of at most 28 bits, likewise. The
reference clock is not read. -/
def Obligations.SetFrequencyWordCompletes : Prop :=
  ∀ (s : State) (ch : BitVec 8) (c : Channel) (raw : BitVec 48) (sh : Word16) (as : List (Option Reply)),
    s.awaiting = false → s.inited = true → s.desync = false →
    ((ch = 0 ∧ c = .ch0) ∨ (ch = 1 ∧ c = .ch1)) → raw.extractLsb' 28 20 = 0 → s.shadow = some sh →
    s.answers = [some .ok, some .ok, some .ok, some .ok] ++ as →
    ∃ t u : State, exec (.setFrequencyWord ch raw) s = .next t ∧
      t = { s with plan :=
        (freqWords s.params sh c (raw.extractLsb' 0 28)).flatMap (writeReg s.params) ++ [.commit .ok] } ∧
      Host.Core.run Sys2Proof.core 13 t = .next u ∧
      u = { s with
        plan := [], selOut := !s.params.selActive, answers := as,
        log := u.log, receiver := u.receiver, deviceDraws := u.deviceDraws } ∧
      u.trace = s.trace ++ (freqWords s.params sh c (raw.extractLsb' 0 28)).flatMap (wrEvents s.params) ∧
      u.results = s.results ++ [.ok]

/-- R181: SET_PHASE_WORD in a ready block on a channel sends the one tagged word and, answered `Ok`, ends in `OK`; no
register of the block changes, and the shadow is not read. -/
def Obligations.SetPhaseWordCompletes : Prop :=
  ∀ (s : State) (ch : BitVec 8) (c : Channel) (w : BitVec 12) (as : List (Option Reply)),
    s.awaiting = false → s.inited = true → s.desync = false →
    ((ch = 0 ∧ c = .ch0) ∨ (ch = 1 ∧ c = .ch1)) → s.answers = some .ok :: as →
    ∃ t u : State, exec (.setPhaseWord ch w) s = .next t ∧
      t = { s with plan := [.setSel s.params.selActive, .xfer (tagPhase s.params.layout c ||| w.setWidth 16),
        .setSel (!s.params.selActive), .commit .ok] } ∧
      Host.Core.run Sys2Proof.core 4 t = .next u ∧
      u = { s with
        plan := [], selOut := !s.params.selActive, answers := as,
        log := u.log, receiver := u.receiver, deviceDraws := u.deviceDraws } ∧
      u.trace = s.trace ++ wrEvents s.params (tagPhase s.params.layout c ||| w.setWidth 16) ∧
      u.results = s.results ++ [.ok]

/-- R190, R191, R196, R201: each of the three field setters in a ready block puts its field's value into the shadow,
sends the whole shadow as one word and, answered `Ok`, ends in `OK`; no other register of the block changes. -/
def Obligations.FieldSettersComplete : Prop :=
  ∀ (s : State) (i : Instr) (mask val sh : Word16) (as : List (Option Reply)),
    s.awaiting = false → s.inited = true → s.desync = false → s.shadow = some sh → s.answers = some .ok :: as →
    ((∃ c, i = .setSignOutput c ∧ mask = s.params.layout.signMask ∧ val = signVal s.params.layout c) ∨
      (∃ m, i = .setOutputMode m ∧ mask = s.params.layout.modeMask ∧ val = modeVal s.params.layout m) ∨
      (∃ z, i = .setSleep z ∧ mask = s.params.layout.sleepMask ∧ val = sleepVal s.params.layout z)) →
    ∃ t u : State, exec i s = .next t ∧
      t = { s with
        shadow := some ((sh &&& ~~~mask) ||| val)
        plan := [.setSel s.params.selActive, .xfer ((sh &&& ~~~mask) ||| val), .setSel (!s.params.selActive),
          .commit .ok] } ∧
      Host.Core.run Sys2Proof.core 4 t = .next u ∧
      u = { s with
        shadow := some ((sh &&& ~~~mask) ||| val), plan := [], selOut := !s.params.selActive, answers := as,
        log := u.log, receiver := u.receiver, deviceDraws := u.deviceDraws } ∧
      u.trace = s.trace ++ wrEvents s.params ((sh &&& ~~~mask) ||| val) ∧
      u.results = s.results ++ [.ok]

/-- R206, R207: SET_OUTPUT_WAVE in a ready block writes the sign and the mode field of its shape in one transfer. -/
def Obligations.SetOutputWaveCompletes : Prop :=
  ∀ (s : State) (k : BitVec 8) (c : SignCode) (m : ModeCode) (sh : Word16) (as : List (Option Reply)),
    s.awaiting = false → s.inited = true → s.desync = false → s.shadow = some sh → s.answers = some .ok :: as →
    ((k = 0 ∧ c = .off ∧ m = .sine) ∨ (k = 1 ∧ c = .off ∧ m = .triangle) ∨ (k = 2 ∧ c = .comparator ∧ m = .sine)) →
    let w := (sh &&& ~~~(s.params.layout.signMask ||| s.params.layout.modeMask)) |||
      (signVal s.params.layout c ||| modeVal s.params.layout m)
    ∃ t u : State, exec (.setOutputWave k) s = .next t ∧
      t = { s with
        shadow := some w
        plan := [.setSel s.params.selActive, .xfer w, .setSel (!s.params.selActive), .commit .ok] } ∧
      Host.Core.run Sys2Proof.core 4 t = .next u ∧
      u = { s with
        shadow := some w, plan := [], selOut := !s.params.selActive, answers := as,
        log := u.log, receiver := u.receiver, deviceDraws := u.deviceDraws } ∧
      u.trace = s.trace ++ wrEvents s.params w ∧ u.results = s.results ++ [.ok]

/-- R221, R222: RESET in a ready block pulses the reset line and ends in `OK`; it sends no word, takes no answer and
changes no register of the block. -/
def Obligations.ResetCompletes : Prop :=
  ∀ s : State, s.awaiting = false → s.inited = true → s.desync = false →
    ∃ t u : State, exec .reset s = .next t ∧
      t = { s with plan := [.setRst s.params.rstActive, .hold, .setRst (!s.params.rstActive), .commit .ok] } ∧
      Host.Core.run Sys2Proof.core 4 t = .next u ∧
      u = { s with
        plan := [], rstOut := !s.params.rstActive,
        log := u.log, receiver := u.receiver, deviceDraws := u.deviceDraws } ∧
      u.trace = s.trace ++ pulseEvents s.params ∧ u.results = s.results ++ [.ok]

/-! ### Transport failure -/

/-- R225: a transfer answered `Err(e)`, of any command and at any place in its plan, is followed by the select release
and nothing else; the failure update is `desync <- 1`, or for INIT the update of R126, and the result is
`TransportError(e)`. A transfer answered `Ok` continues the plan. -/
def Obligations.TransferAnswerDecides : Prop :=
  ∀ (s : State) (w : Word16) (rest : List Action) (as : List (Option Reply)), s.plan = .xfer w :: rest →
    (∀ e, s.answers = some (.err e) :: as → (∀ c, .commit c ∈ rest → c = .ok) →
      ∃ u : State, Host.Core.run Sys2Proof.core 3 s = .next u ∧
        u = { s with
          desync := true, awaiting := false, plan := [], selOut := !s.params.selActive, answers := as,
          log := u.log, receiver := u.receiver, deviceDraws := u.deviceDraws } ∧
        u.trace = s.trace ++ (if s.awaiting then [] else [.xfer w]) ++ [.setSel (!s.params.selActive)] ∧
        u.results = s.results ++ [.transportError e]) ∧
    (∀ e f, s.answers = some (.err e) :: as → .commit (.initOk f) ∈ rest →
      ∃ u : State, Host.Core.run Sys2Proof.core 3 s = .next u ∧
        u = { s with
          inited := false, desync := false, refHz := none, shadow := none,
          awaiting := false, plan := [], selOut := !s.params.selActive, answers := as,
          log := u.log, receiver := u.receiver, deviceDraws := u.deviceDraws } ∧
        u.trace = s.trace ++ (if s.awaiting then [] else [.xfer w]) ++ [.setSel (!s.params.selActive)] ∧
        u.results = s.results ++ [.transportError e]) ∧
    (s.answers = some .ok :: as →
      ∃ u : State, step s = .next u ∧
        u = { s with
          awaiting := false, plan := rest, answers := as,
          log := u.log, receiver := u.receiver, deviceDraws := u.deviceDraws } ∧
        u.trace = s.trace ++ (if s.awaiting then [] else [.xfer w]) ∧ u.results = s.results)

/-- R148: if the transfer of step `k` of a frequency write answers `Err(e)`, the later words are not sent, `desync` is
set, the shadow is unchanged and the result is `TransportError(e)`. -/
def Obligations.FrequencyWriteFails : Prop :=
  ∀ (s : State) (c : Channel) (v : FreqWord) (sh : Word16) (k : Nat) (e : TErr) (as : List (Option Reply)),
    s.awaiting = false → k < 4 → s.answers = List.replicate k (some .ok) ++ some (.err e) :: as →
    s.plan = (freqWords s.params sh c v).flatMap (writeReg s.params) ++ [.commit .ok] →
    ∃ u : State, Host.Core.run Sys2Proof.core (3 * k + 4) s = .next u ∧
      u = { s with
        desync := true, plan := [], selOut := !s.params.selActive, answers := as,
        log := u.log, receiver := u.receiver, deviceDraws := u.deviceDraws } ∧
      u.trace = s.trace ++ ((freqWords s.params sh c v).take (k + 1)).flatMap (wrEvents s.params) ∧
      u.results = s.results ++ [.transportError e]

/-- R190, R228: a field setter whose transfer fails keeps the new shadow and sets `desync`. -/
def Obligations.FieldSetterFails : Prop :=
  ∀ (s : State) (i : Instr) (mask val sh : Word16) (e : TErr) (as : List (Option Reply)),
    s.awaiting = false → s.inited = true → s.desync = false → s.shadow = some sh →
    s.answers = some (.err e) :: as → fieldWritten s.params.layout i = some (mask, val) →
    ∃ t u : State, exec i s = .next t ∧ Host.Core.run Sys2Proof.core 4 t = .next u ∧
      u = { s with
        shadow := some ((sh &&& ~~~mask) ||| val), desync := true, plan := [], selOut := !s.params.selActive,
        answers := as, log := u.log, receiver := u.receiver, deviceDraws := u.deviceDraws } ∧
      u.trace = s.trace ++ wrEvents s.params ((sh &&& ~~~mask) ||| val) ∧
      u.results = s.results ++ [.transportError e]

/-- R253: a transfer that is never answered leaves the block waiting in it, its word handed over, the lines, the plan
and every register as they were, the select line asserted (in a state that meets the invariant); from there no step is
enabled. That "no step is enabled" is the fault `transportSilent` is the model's choice (log entry 8). -/
def Obligations.SilentTransportSticks : Prop :=
  ∀ (s : State) (w : Word16) (rest : List Action) (as : List (Option Reply)),
    s.plan = .xfer w :: rest → s.awaiting = false → s.answers = none :: as →
    ∃ t, step s = .next t ∧ t = { s with awaiting := true, log := t.log } ∧ t.trace = s.trace ++ [.xfer w] ∧
      t.results = s.results ∧ (s.Inv → t.selOut = s.params.selActive) ∧ step t = .fault .transportSilent

/-- R252, R250: only INIT leaves the desynchronised state: a step that clears `desync` performs INIT's commit. -/
def Obligations.OnlyInitClearsDesync : Prop :=
  ∀ s t : State, step s = .next t → s.desync = true → t.desync = false →
    ∃ rest, (∃ f, s.plan = .commit (.initOk f) :: rest) ∨ (∃ e, s.plan = .commit (.initFailed e) :: rest)

/-- R21: `inited` is written by INIT only: a step that changes it performs INIT's commit, a success setting it (R124)
and a failure clearing it (R126). -/
def Obligations.OnlyInitWritesInited : Prop :=
  ∀ s t : State, step s = .next t → t.inited ≠ s.inited →
    (∃ f rest, s.plan = .commit (.initOk f) :: rest ∧ t.inited = true) ∨
    (∃ e rest, s.plan = .commit (.initFailed e) :: rest ∧ t.inited = false)

/-- R26, R33, R250: `desync` is set by the failure update of a failed transfer only: a step that sets it performs that
update and gives `TransportError`, and a step that puts the update into the plan is a transfer answered `Err` with the
same payload. -/
def Obligations.OnlyFailedTransferSetsDesync : Prop :=
  (∀ s t : State, step s = .next t → s.desync = false → t.desync = true →
    ∃ e rest, s.plan = .commit (.failed e) :: rest ∧ t.results = s.results ++ [.transportError e]) ∧
  (∀ (s t : State) (e : TErr), step s = .next t → .commit (.failed e) ∈ t.plan →
    .commit (.failed e) ∈ s.plan ∨ ∃ w rest, s.plan = .xfer w :: rest ∧ s.nextReply = some (.err e))

/-- R22: the reference clock is written by a successful INIT only; a failed INIT leaves it unspecified (R126). -/
def Obligations.OnlyInitWritesClock : Prop :=
  ∀ s t : State, step s = .next t → t.refHz ≠ s.refHz →
    (∃ f rest, s.plan = .commit (.initOk f) :: rest ∧ t.refHz = some f ∧ t.inited = true) ∨
    (∃ e rest, s.plan = .commit (.initFailed e) :: rest ∧ t.refHz = none ∧ t.inited = false)

/-- R24: the shadow is written by INIT and by the field setters only, a setter writing only the bits of its mask. -/
def Obligations.OnlySettersWriteShadow : Prop :=
  (∀ s t : State, s.plan ≠ [] → step s = .next t → t.shadow ≠ s.shadow →
    (∃ f rest, s.plan = .commit (.initOk f) :: rest ∧ t.shadow = some s.params.initControlWord) ∨
    (∃ e rest, s.plan = .commit (.initFailed e) :: rest ∧ t.shadow = none)) ∧
  (∀ (i : Instr) (s t : State), exec i s = .next t → t.shadow ≠ s.shadow →
    ∃ sh mask val, s.shadow = some sh ∧ fieldWritten s.params.layout i = some (mask, val) ∧
      t.shadow = some ((sh &&& ~~~mask) ||| val))

/-! ### Fields and words -/

/-- R195: each of the three field setters leaves the fields of the other two, and every bit outside its own field, as
they were, and its own field holds the value of its code. -/
def Obligations.FieldIsolation : Prop :=
  ∀ (s t : State) (sh sh' : Word16), s.params.Ok → s.shadow = some sh → t.shadow = some sh' →
    s.inited = true → s.desync = false →
    (∀ c, exec (.setSignOutput c) s = .next t →
      sh' &&& s.params.layout.signMask = signVal s.params.layout c ∧
      sh' &&& s.params.layout.modeMask = sh &&& s.params.layout.modeMask ∧
      sh' &&& s.params.layout.sleepMask = sh &&& s.params.layout.sleepMask ∧
      sh' &&& ~~~s.params.layout.signMask = sh &&& ~~~s.params.layout.signMask) ∧
    (∀ m, exec (.setOutputMode m) s = .next t →
      sh' &&& s.params.layout.modeMask = modeVal s.params.layout m ∧
      sh' &&& s.params.layout.signMask = sh &&& s.params.layout.signMask ∧
      sh' &&& s.params.layout.sleepMask = sh &&& s.params.layout.sleepMask ∧
      sh' &&& ~~~s.params.layout.modeMask = sh &&& ~~~s.params.layout.modeMask) ∧
    (∀ z, exec (.setSleep z) s = .next t →
      sh' &&& s.params.layout.sleepMask = sleepVal s.params.layout z ∧
      sh' &&& s.params.layout.signMask = sh &&& s.params.layout.signMask ∧
      sh' &&& s.params.layout.modeMask = sh &&& s.params.layout.modeMask ∧
      sh' &&& ~~~s.params.layout.sleepMask = sh &&& ~~~s.params.layout.sleepMask)

/-- R101: each word of the plan an accepted command sets is of one of the four kinds, and a word goes out only from the
head of the plan. -/
def Obligations.OnlyFourWordKinds : Prop :=
  (∀ (i : Instr) (s t : State), s.plan = [] → i.wf s.params = true → exec i s = .next t →
    ∀ w ∈ planWords t.plan, BusWordKind s.params t.shadow w) ∧
  (∀ (s t : State) (w : Word16), step s = .next t → t.trace = s.trace ++ [.xfer w] →
    ∃ rest, s.plan = .xfer w :: rest)

/-- R294: in a state that meets the invariant, a word goes out with the select line asserted and the reset line
released, and the select line is released right after it. -/
def Obligations.WordsAreFramed : Prop :=
  ∀ (s t : State) (w : Word16), s.Inv → step s = .next t → t.trace = s.trace ++ [.xfer w] →
    s.selOut = s.params.selActive ∧ s.rstOut = !s.params.rstActive ∧
    ∃ rest, s.plan = .xfer w :: .setSel (!s.params.selActive) :: rest

/-! ### Invariants -/

/-- R30, R31, R32 and what they rest on: every step keeps the invariant. -/
def Obligations.StepKeepsInvariant : Prop :=
  ∀ s t : State, s.Inv → step s = .next t → t.Inv

/-- The invariant holds at reset. -/
def Obligations.ResetMeetsInvariant : Prop := State.reset.Inv

/-- R37, R280: the flags, the plan and the lines after the power-on reset, the two registers absent, and nothing sent;
the block then waits, which the model shows as a step that changes nothing (log entry 9). -/
def Obligations.ResetValues : Prop :=
  ∀ p : Params,
    (State.powerOn p).inited = false ∧ (State.powerOn p).desync = false ∧ (State.powerOn p).plan = [] ∧
    (State.powerOn p).selOut = !p.selActive ∧ (State.powerOn p).rstOut = !p.rstActive ∧
    (State.powerOn p).refHz = none ∧ (State.powerOn p).shadow = none ∧ (State.powerOn p).trace = [] ∧
    step (State.powerOn p) = .next (State.powerOn p)

/-- R37, I1: under the invariant no step reads an absent register or scales by a zero clock; the one stop is the
transport that never answers (R253), and no step is refused. -/
def Obligations.NoStopButSilence : Prop :=
  ∀ s : State, s.Inv →
    (∀ f, step s = .fault f → f = .transportSilent ∧ s.awaiting = true ∧ s.nextReply = none) ∧
    (∀ r, step s ≠ .refused r)

/-- R80, R108, R256: every step keeps the count: one result for each accepted command, but for the one in progress. -/
def Obligations.OneResultPerCommand : Prop :=
  (∀ s t : State, s.Inv → s.ResultsCounted → step s = .next t → t.ResultsCounted) ∧ State.reset.ResultsCounted

/-- R254: a command runs to its end: with an answer listed for each of its words, a plan is finished after at most as
many steps as it has actions. -/
def Obligations.CommandsRunToEnd : Prop :=
  ∀ s : State, s.Inv → s.plan ≠ [] → (planWords s.plan).length ≤ s.answers.length → (∀ a ∈ s.answers, a ≠ none) →
    ∃ (k : Nat) (t : State), k ≤ s.plan.length ∧ Host.Core.run Sys2Proof.core k s = .next t ∧ t.plan = [] ∧
      t.results.length = s.results.length + 1

/-- R284: under the default parameters the `RESET` bit stays set in the shadow of an initialised block. -/
def Obligations.ResetBitStaysSet : Prop :=
  ∀ (s t : State) (sh : Word16), s.Inv → s.params = Params.default → step s = .next t → t.inited = true →
    t.shadow = some sh → sh &&& 0x0100 = 0x0100

/-! ### The big-step view and the device -/

/-- R291: the micro-steps of one command give the state, the events and the result of the big-step function. -/
def Obligations.MicroStepsAgreeWithBigStep : Prop :=
  ∀ (s : State) (cmd : CmdWord) (ps : List CmdWord) (b : CommandRun), s.plan = [] → s.awaiting = false →
    s.port = cmd :: ps → runCommand s cmd s.answers = some b →
    ∃ (k : Nat) (t : State), 0 < k ∧ Host.Core.run Sys2Proof.core k s = .next t ∧
      t = { b.state with port := ps, answers := b.left, log := t.log } ∧
      t.trace = s.trace ++ b.events ∧ t.results = s.results ++ [b.result] ∧ t.commands = s.commands ++ [cmd]

/-- R67 under `RESET_CLEARS_CTRL = unchanged` (R66): between commands the device's control register is the shadow and
it holds no half of a pair, and each command keeps that. When the receiver takes a word and sees a pulse is the
model's reading (log entries 18 and 19). -/
def Obligations.CorrespondenceKept : Prop :=
  ∀ (s : State) (cmd : CmdWord) (as : List (Option Reply)) (b : CommandRun), s.Inv → s.plan = [] →
    s.params.resetClearsCtrl = .unchanged → s.Corresponds → runCommand s cmd as = some b → b.state.Corresponds

/-- R67, second sentence: a frequency command that ends in `OK` leaves the word in its frequency register and every
other register of R61 as before; a phase command likewise. The phase accumulator is no register of R61: the device's own
clock moves it (log entry 21). When the receiver takes a word, and for a layout other than the default the bit that
selects a phase register, are the model's reading (log entries 18 and 20). -/
def Obligations.OkWriteReachesDevice : Prop :=
  ∀ (s : State) (cmd : CmdWord) (as : List (Option Reply)) (b : CommandRun) (ch : BitVec 8) (c : Channel),
    s.Inv → s.plan = [] → s.Corresponds → channelOf ch = some c →
    runCommand s cmd as = some b → b.result = .ok →
    (∀ raw, decode s.params cmd = .ok (.setFrequencyWord ch raw) →
      b.state.receiver = { s.receiver.setFreq c (raw.setWidth 28) with acc := b.state.receiver.acc } ∧
      raw.toNat < 2 ^ 28) ∧
    (∀ q r, decode s.params cmd = .ok (.setFrequency ch q) → s.refHz = some r →
      b.state.receiver =
        { s.receiver.setFreq c (BitVec.ofNat 28 (scaleHz s.params.freqFrac q.toInt.toNat r.toNat)) with
          acc := b.state.receiver.acc } ∧
      scaleHz s.params.freqFrac q.toInt.toNat r.toNat < 2 ^ 28) ∧
    (∀ w, decode s.params cmd = .ok (.setPhaseWord ch w) →
      b.state.receiver = { s.receiver.setPhase c w with acc := b.state.receiver.acc })

/-- R63: in two-write mode the first half of a pair waits and leaves both registers; the second completes the 28-bit
register, high half above low half; a half for the other channel ends the pair, leaves both frequency registers at any
value, and every other register as before. -/
def Obligations.ReceiverPairsHalves : Prop :=
  ∀ (p : Params) (m n : Nat) (ch : Channel) (lo hi : HalfWord) (r : Receiver), p.Ok →
    r.ctrl &&& p.layout.b28 ≠ 0 →
    (r.pend = none →
      r.consume p m (tagFreq p.layout ch ||| lo.setWidth 16) = { r with pend := some (ch, lo) } ∧
      (r.consume p m (tagFreq p.layout ch ||| lo.setWidth 16)).consume p n (tagFreq p.layout ch ||| hi.setWidth 16) =
        r.setFreq ch (hi ++ lo : BitVec (14 + 14))) ∧
    (r.pend = some (ch, lo) →
      r.consume p n (tagFreq p.layout ch ||| hi.setWidth 16) =
        { r.setFreq ch (hi ++ lo : BitVec (14 + 14)) with pend := none }) ∧
    (∀ other, other ≠ ch → r.pend = some (other, lo) →
      ∃ f0 f1, r.consume p n (tagFreq p.layout ch ||| hi.setWidth 16) =
        { r with freq0 := f0, freq1 := f1, pend := none })

/-- R64: outside two-write mode a frequency word writes the half of its register that `HLB` chooses, keeps the other
half, and leaves `pend` and every other register as before. -/
def Obligations.ReceiverWritesOneHalf : Prop :=
  ∀ (p : Params) (n : Nat) (ch : Channel) (half : HalfWord) (r : Receiver), p.Ok → r.ctrl &&& p.layout.b28 = 0 →
    (r.ctrl &&& p.layout.hlb ≠ 0 →
      r.consume p n (tagFreq p.layout ch ||| half.setWidth 16) =
        r.setFreq ch (half ++ (r.freq ch).extractLsb' 0 14 : BitVec (14 + 14))) ∧
    (r.ctrl &&& p.layout.hlb = 0 →
      r.consume p n (tagFreq p.layout ch ||| half.setWidth 16) =
        r.setFreq ch ((r.freq ch).extractLsb' 14 14 ++ half : BitVec (14 + 14)))

/-- R65: a phase word sets its phase register and nothing else. For a layout other than the default, the bit that
selects the register is the model's reading (log entry 20). -/
def Obligations.ReceiverTakesPhase : Prop :=
  ∀ (p : Params) (n : Nat) (ch : Channel) (v : BitVec 12) (r : Receiver), p.Ok → v.toNat < 2 ^ p.phaseW →
    r.consume p n (tagPhase p.layout ch ||| v.setWidth 16) = r.setPhase ch v

/-- R62, R66: a control word sets CTRL and keeps or drops `pend`; a pulse drops `pend`, returns the accumulator to zero,
leaves FREQ and PHASE, and treats CTRL as `RESET_CLEARS_CTRL` says. The accumulator's width is the model's reading (log
entry 21). -/
def Obligations.ReceiverControlAndPulse : Prop :=
  (∀ (p : Params) (n : Nat) (w : Word16) (r : Receiver), p.Ok → w.extractLsb' 14 2 = 0 →
    ∃ pd, (pd = r.pend ∨ pd = none) ∧ r.consume p n w = { r with ctrl := w, pend := pd }) ∧
  (∀ (p : Params) (n : Nat) (r : Receiver), ∃ v, r.pulse p n = { r with ctrl := v, pend := none, acc := 0 } ∧
    (p.resetClearsCtrl = .unchanged → v = r.ctrl) ∧ (p.resetClearsCtrl = .cleared → v = 0))

/-! ### The scaler -/

/-- R143: the integer computation is the exact product `F * clk_scaler`, rounded half up. -/
def Obligations.ScalerRoundsExactProduct : Prop :=
  ∀ frac q r : Nat, frac ≤ 28 → 0 < r →
    (scaleHz frac q r : Int) = roundHalfUp (hertz frac q * clkScaler r)

/-- R144: the forms of "the word fits 28 bits": of the product, of the frequency, and of the integers. That a word that
does not fit is refused is Obligations.FrequencyOutOfRangeRefused. -/
def Obligations.ScalerRange : Prop :=
  ∀ frac q r : Nat, frac ≤ 28 → 0 < r →
    (scaleHz frac q r ≤ 2 ^ 28 - 1 ↔ hertz frac q * clkScaler r < 2 ^ 28 - 1 / 2) ∧
    (scaleHz frac q r ≤ 2 ^ 28 - 1 ↔ hertz frac q < (r : ℚ) * (1 - 1 / 2 ^ 29)) ∧
    (2 ^ 28 ≤ scaleHz frac q r ↔ q * 2 ^ (29 - frac) + r ≥ 2 ^ 29 * r)

/-- R149: the word converted back lies within half of one LSB of the frequency. -/
def Obligations.ScalerPrecision : Prop :=
  ∀ frac q r : Nat, frac ≤ 28 → 0 < r →
    |(scaleHz frac q r : ℚ) / clkScaler r - hertz frac q| ≤ 1 / (2 * clkScaler r)

/-- R157 (4): SET_FREQUENCY does exactly what SET_FREQUENCY_WORD does with the scaled word, where that fits. -/
def Obligations.SetFrequencyIsScaledWordWrite : Prop :=
  ∀ (s : State) (ch : BitVec 8) (q : BitVec 48) (r : BitVec 32), 0 ≤ q.toInt → s.refHz = some r → r ≠ 0 →
    scaleHz s.params.freqFrac q.toInt.toNat r.toNat < 2 ^ 28 →
    exec (.setFrequency ch q) s =
      exec (.setFrequencyWord ch (BitVec.ofNat 48 (scaleHz s.params.freqFrac q.toInt.toNat r.toNat))) s

/-! ### The assembler -/

/-- R105: a line the assembler accepts becomes the word of a well-formed command, which decodes to it; and for each
mnemonic, which operands are accepted and the `op`, `sel` and `data` of the word, as the table of R105 gives them. That
`init` takes a clock below `2^REFCLK_W` where `REFCLK_W` is below 32 is the model's choice (log entry 14). -/
def Obligations.AssembledLinesDecode : Prop :=
  ∀ p : Params, p.Ok →
    (∀ l w, assemble p l = some w → ∃ i, l.instr p = some i ∧ i.wf p = true ∧ decode p w = .ok i) ∧
    (∀ f w, assemble p (.init f) = some w ↔ f < 2 ^ p.refclkW ∧ HasFields w 0x1 0 (BitVec.ofNat 48 f)) ∧
    (∀ ch h w, assemble p (.setfreq ch h) = some w ↔
      ch < 256 ∧ ∃ q, h.operand p = some q ∧ HasFields w 0x2 (BitVec.ofNat 8 ch) (BitVec.ofInt 48 q)) ∧
    (∀ ch v w, assemble p (.setfreqw ch v) = some w ↔
      ch < 256 ∧ v < 2 ^ 48 ∧ HasFields w 0x3 (BitVec.ofNat 8 ch) (BitVec.ofNat 48 v)) ∧
    (∀ ch v w, assemble p (.setphase ch v) = some w ↔
      ch < 256 ∧ v < 2 ^ p.phaseW ∧ HasFields w 0x4 (BitVec.ofNat 8 ch) (BitVec.ofNat 48 v)) ∧
    (∀ c sel w, (c, sel) ∈ [(.off, 0), (.msb, 1), (.msb2, 2), (.comparator, 3)] →
      (assemble p (.setsign c) = some w ↔ HasFields w 0x5 sel 0)) ∧
    (∀ m sel w, (m, sel) ∈ [(.sine, 0), (.triangle, 1)] →
      (assemble p (.setmode m) = some w ↔ HasFields w 0x6 sel 0)) ∧
    (∀ z sel w, (z, sel) ∈ [(.off, 0), (.mclk, 1), (.dac, 2), (.all, 3)] →
      (assemble p (.setsleep z) = some w ↔ HasFields w 0x7 sel 0)) ∧
    (∀ k w, assemble p (.setwave k) = some w ↔ k < 256 ∧ HasFields w 0x8 (BitVec.ofNat 8 k) 0) ∧
    (∀ w, assemble p .reset = some w ↔ HasFields w 0x9 0 0)

/-- R105: the assembler never rounds: it accepts a frequency literal exactly when it is `q / 2^FREQ_FRAC` for an integer
`q` in the operand's range, and then gives that `q`. -/
def Obligations.AssemblerNeverRounds : Prop :=
  ∀ (p : Params) (h : HzLiteral) (q : Int),
    h.operand p = some q ↔
      ((q : ℚ) / 2 ^ p.freqFrac = (if h.neg then -1 else 1) * ((h.digits : ℚ) / 10 ^ h.places) ∧
        -(2 ^ (p.freqInW - 1) : Int) ≤ q ∧ q < 2 ^ (p.freqInW - 1))
end

