-- ==== Sys2Proof/Laws/Device.lean ====
section
/-! SUPPORT. The receiver: one lemma per field of Receiver and per update, and what a word or a pulse leaves alone. -/

namespace Sys2Proof.Machine

variable (r : Receiver)

/-! ### `Receiver.clockRuns` and `Receiver.pulse` -/

@[simp] theorem Receiver.clockRuns_ctrl (n : Nat) : (r.clockRuns n).ctrl = r.ctrl := rfl
@[simp] theorem Receiver.clockRuns_freq0 (n : Nat) : (r.clockRuns n).freq0 = r.freq0 := rfl
@[simp] theorem Receiver.clockRuns_freq1 (n : Nat) : (r.clockRuns n).freq1 = r.freq1 := rfl
@[simp] theorem Receiver.clockRuns_phase0 (n : Nat) : (r.clockRuns n).phase0 = r.phase0 := rfl
@[simp] theorem Receiver.clockRuns_phase1 (n : Nat) : (r.clockRuns n).phase1 = r.phase1 := rfl
@[simp] theorem Receiver.clockRuns_pend (n : Nat) : (r.clockRuns n).pend = r.pend := rfl
@[simp] theorem Receiver.clockRuns_acc (n : Nat) : (r.clockRuns n).acc = Config.anyAcc n := rfl

@[simp] theorem Receiver.pulse_ctrl (p : Params) (n : Nat) : (r.pulse p n).ctrl = r.ctrlAfterPulse p n := rfl
@[simp] theorem Receiver.pulse_freq0 (p : Params) (n : Nat) : (r.pulse p n).freq0 = r.freq0 := rfl
@[simp] theorem Receiver.pulse_freq1 (p : Params) (n : Nat) : (r.pulse p n).freq1 = r.freq1 := rfl
@[simp] theorem Receiver.pulse_phase0 (p : Params) (n : Nat) : (r.pulse p n).phase0 = r.phase0 := rfl
@[simp] theorem Receiver.pulse_phase1 (p : Params) (n : Nat) : (r.pulse p n).phase1 = r.phase1 := rfl
@[simp] theorem Receiver.pulse_pend (p : Params) (n : Nat) : (r.pulse p n).pend = none := rfl
@[simp] theorem Receiver.pulse_acc (p : Params) (n : Nat) : (r.pulse p n).acc = 0 := rfl

/-! ### `Receiver.setFreq` and `Receiver.setPhase` -/

@[simp] theorem Receiver.setFreq_ctrl (ch : Channel) (v : FreqWord) : (r.setFreq ch v).ctrl = r.ctrl := by cases ch <;> rfl
@[simp] theorem Receiver.setFreq_phase0 (ch : Channel) (v : FreqWord) : (r.setFreq ch v).phase0 = r.phase0 := by cases ch <;> rfl
@[simp] theorem Receiver.setFreq_phase1 (ch : Channel) (v : FreqWord) : (r.setFreq ch v).phase1 = r.phase1 := by cases ch <;> rfl
@[simp] theorem Receiver.setFreq_pend (ch : Channel) (v : FreqWord) : (r.setFreq ch v).pend = r.pend := by cases ch <;> rfl
@[simp] theorem Receiver.setFreq_acc (ch : Channel) (v : FreqWord) : (r.setFreq ch v).acc = r.acc := by cases ch <;> rfl

@[simp] theorem Receiver.setPhase_ctrl (ch : Channel) (v : BitVec 12) : (r.setPhase ch v).ctrl = r.ctrl := by cases ch <;> rfl
@[simp] theorem Receiver.setPhase_freq0 (ch : Channel) (v : BitVec 12) : (r.setPhase ch v).freq0 = r.freq0 := by cases ch <;> rfl
@[simp] theorem Receiver.setPhase_freq1 (ch : Channel) (v : BitVec 12) : (r.setPhase ch v).freq1 = r.freq1 := by cases ch <;> rfl
@[simp] theorem Receiver.setPhase_pend (ch : Channel) (v : BitVec 12) : (r.setPhase ch v).pend = r.pend := by cases ch <;> rfl
@[simp] theorem Receiver.setPhase_acc (ch : Channel) (v : BitVec 12) : (r.setPhase ch v).acc = r.acc := by cases ch <;> rfl

@[simp] theorem Receiver.setFreq_freq (ch : Channel) (v : FreqWord) : (r.setFreq ch v).freq ch = v := by
  cases ch <;> rfl

@[simp] theorem Receiver.setPhase_phase (ch : Channel) (v : BitVec 12) : (r.setPhase ch v).phase ch = v := by
  cases ch <;> rfl

/-! ### `Receiver.consume` -/

/-- No word moves the accumulator by itself (R62 to R65). -/
@[simp] theorem Receiver.consume_acc (p : Params) (n : Nat) (w : Word16) : (r.consume p n w).acc = r.acc := by
  have half : ∀ ch v, (r.freqHalf p.layout n ch v).acc = r.acc := by
    intro ch v
    unfold Receiver.freqHalf Receiver.pairedHalf Receiver.singleHalf
    repeat' split
    all_goals simp
  unfold Receiver.consume Receiver.controlWord
  repeat' split
  all_goals simp [half]

end Sys2Proof.Machine
end

