-- ==== Sys2Proof/Laws/State.lean ====
section
/-! SUPPORT. One lemma per field of State and per update: what the update leaves in that field. They spare later
proofs the unfolding of a record update. -/

namespace Sys2Proof.Machine

variable (s : State)

/-! ### `State.emit` -/

@[simp] theorem State.emit_params (x : PortItem) : (s.emit x).params = s.params := rfl
@[simp] theorem State.emit_inited (x : PortItem) : (s.emit x).inited = s.inited := rfl
@[simp] theorem State.emit_desync (x : PortItem) : (s.emit x).desync = s.desync := rfl
@[simp] theorem State.emit_refHz (x : PortItem) : (s.emit x).refHz = s.refHz := rfl
@[simp] theorem State.emit_shadow (x : PortItem) : (s.emit x).shadow = s.shadow := rfl
@[simp] theorem State.emit_plan (x : PortItem) : (s.emit x).plan = s.plan := rfl
@[simp] theorem State.emit_awaiting (x : PortItem) : (s.emit x).awaiting = s.awaiting := rfl
@[simp] theorem State.emit_selOut (x : PortItem) : (s.emit x).selOut = s.selOut := rfl
@[simp] theorem State.emit_rstOut (x : PortItem) : (s.emit x).rstOut = s.rstOut := rfl
@[simp] theorem State.emit_port (x : PortItem) : (s.emit x).port = s.port := rfl
@[simp] theorem State.emit_log (x : PortItem) : (s.emit x).log = s.log ++ [x] := rfl
@[simp] theorem State.emit_answers (x : PortItem) : (s.emit x).answers = s.answers := rfl
@[simp] theorem State.emit_replyDraws (x : PortItem) : (s.emit x).replyDraws = s.replyDraws := rfl
@[simp] theorem State.emit_receiver (x : PortItem) : (s.emit x).receiver = s.receiver := rfl
@[simp] theorem State.emit_deviceDraws (x : PortItem) : (s.emit x).deviceDraws = s.deviceDraws := rfl

/-! ### `State.present` -/

@[simp] theorem State.present_params (c : CmdWord) : (s.present c).params = s.params := rfl
@[simp] theorem State.present_inited (c : CmdWord) : (s.present c).inited = s.inited := rfl
@[simp] theorem State.present_desync (c : CmdWord) : (s.present c).desync = s.desync := rfl
@[simp] theorem State.present_refHz (c : CmdWord) : (s.present c).refHz = s.refHz := rfl
@[simp] theorem State.present_shadow (c : CmdWord) : (s.present c).shadow = s.shadow := rfl
@[simp] theorem State.present_plan (c : CmdWord) : (s.present c).plan = s.plan := rfl
@[simp] theorem State.present_awaiting (c : CmdWord) : (s.present c).awaiting = s.awaiting := rfl
@[simp] theorem State.present_selOut (c : CmdWord) : (s.present c).selOut = s.selOut := rfl
@[simp] theorem State.present_rstOut (c : CmdWord) : (s.present c).rstOut = s.rstOut := rfl
@[simp] theorem State.present_port (c : CmdWord) : (s.present c).port = s.port ++ [c] := rfl
@[simp] theorem State.present_log (c : CmdWord) : (s.present c).log = s.log := rfl
@[simp] theorem State.present_answers (c : CmdWord) : (s.present c).answers = s.answers := rfl
@[simp] theorem State.present_replyDraws (c : CmdWord) : (s.present c).replyDraws = s.replyDraws := rfl
@[simp] theorem State.present_receiver (c : CmdWord) : (s.present c).receiver = s.receiver := rfl
@[simp] theorem State.present_deviceDraws (c : CmdWord) : (s.present c).deviceDraws = s.deviceDraws := rfl

/-! ### `State.supply` -/

@[simp] theorem State.supply_params (r : Reply) : (s.supply r).params = s.params := rfl
@[simp] theorem State.supply_inited (r : Reply) : (s.supply r).inited = s.inited := rfl
@[simp] theorem State.supply_desync (r : Reply) : (s.supply r).desync = s.desync := rfl
@[simp] theorem State.supply_refHz (r : Reply) : (s.supply r).refHz = s.refHz := rfl
@[simp] theorem State.supply_shadow (r : Reply) : (s.supply r).shadow = s.shadow := rfl
@[simp] theorem State.supply_plan (r : Reply) : (s.supply r).plan = s.plan := rfl
@[simp] theorem State.supply_awaiting (r : Reply) : (s.supply r).awaiting = s.awaiting := rfl
@[simp] theorem State.supply_selOut (r : Reply) : (s.supply r).selOut = s.selOut := rfl
@[simp] theorem State.supply_rstOut (r : Reply) : (s.supply r).rstOut = s.rstOut := rfl
@[simp] theorem State.supply_port (r : Reply) : (s.supply r).port = s.port := rfl
@[simp] theorem State.supply_log (r : Reply) : (s.supply r).log = s.log := rfl
@[simp] theorem State.supply_answers (r : Reply) : (s.supply r).answers = s.answers ++ [some r] := rfl
@[simp] theorem State.supply_replyDraws (r : Reply) : (s.supply r).replyDraws = s.replyDraws := rfl
@[simp] theorem State.supply_receiver (r : Reply) : (s.supply r).receiver = s.receiver := rfl
@[simp] theorem State.supply_deviceDraws (r : Reply) : (s.supply r).deviceDraws = s.deviceDraws := rfl

/-! ### `State.accept` -/

@[simp] theorem State.accept_params (c : CmdWord) (ps : List CmdWord) : (s.accept c ps).params = s.params := rfl
@[simp] theorem State.accept_inited (c : CmdWord) (ps : List CmdWord) : (s.accept c ps).inited = s.inited := rfl
@[simp] theorem State.accept_desync (c : CmdWord) (ps : List CmdWord) : (s.accept c ps).desync = s.desync := rfl
@[simp] theorem State.accept_refHz (c : CmdWord) (ps : List CmdWord) : (s.accept c ps).refHz = s.refHz := rfl
@[simp] theorem State.accept_shadow (c : CmdWord) (ps : List CmdWord) : (s.accept c ps).shadow = s.shadow := rfl
@[simp] theorem State.accept_plan (c : CmdWord) (ps : List CmdWord) : (s.accept c ps).plan = s.plan := rfl
@[simp] theorem State.accept_awaiting (c : CmdWord) (ps : List CmdWord) : (s.accept c ps).awaiting = s.awaiting := rfl
@[simp] theorem State.accept_selOut (c : CmdWord) (ps : List CmdWord) : (s.accept c ps).selOut = s.selOut := rfl
@[simp] theorem State.accept_rstOut (c : CmdWord) (ps : List CmdWord) : (s.accept c ps).rstOut = s.rstOut := rfl
@[simp] theorem State.accept_port (c : CmdWord) (ps : List CmdWord) : (s.accept c ps).port = ps := rfl
@[simp] theorem State.accept_log (c : CmdWord) (ps : List CmdWord) : (s.accept c ps).log = s.log ++ [.command c] := rfl
@[simp] theorem State.accept_answers (c : CmdWord) (ps : List CmdWord) : (s.accept c ps).answers = s.answers := rfl
@[simp] theorem State.accept_replyDraws (c : CmdWord) (ps : List CmdWord) : (s.accept c ps).replyDraws = s.replyDraws := rfl
@[simp] theorem State.accept_receiver (c : CmdWord) (ps : List CmdWord) : (s.accept c ps).receiver = s.receiver := rfl
@[simp] theorem State.accept_deviceDraws (c : CmdWord) (ps : List CmdWord) : (s.accept c ps).deviceDraws = s.deviceDraws := rfl

/-! ### `State.refuse` -/

@[simp] theorem State.refuse_params (r : Result) : (s.refuse r).params = s.params := rfl
@[simp] theorem State.refuse_inited (r : Result) : (s.refuse r).inited = s.inited := rfl
@[simp] theorem State.refuse_desync (r : Result) : (s.refuse r).desync = s.desync := rfl
@[simp] theorem State.refuse_refHz (r : Result) : (s.refuse r).refHz = s.refHz := rfl
@[simp] theorem State.refuse_shadow (r : Result) : (s.refuse r).shadow = s.shadow := rfl
@[simp] theorem State.refuse_plan (r : Result) : (s.refuse r).plan = s.plan := rfl
@[simp] theorem State.refuse_awaiting (r : Result) : (s.refuse r).awaiting = s.awaiting := rfl
@[simp] theorem State.refuse_selOut (r : Result) : (s.refuse r).selOut = s.selOut := rfl
@[simp] theorem State.refuse_rstOut (r : Result) : (s.refuse r).rstOut = s.rstOut := rfl
@[simp] theorem State.refuse_port (r : Result) : (s.refuse r).port = s.port := rfl
@[simp] theorem State.refuse_log (r : Result) : (s.refuse r).log = s.log ++ [.result r] := rfl
@[simp] theorem State.refuse_answers (r : Result) : (s.refuse r).answers = s.answers := rfl
@[simp] theorem State.refuse_replyDraws (r : Result) : (s.refuse r).replyDraws = s.replyDraws := rfl
@[simp] theorem State.refuse_receiver (r : Result) : (s.refuse r).receiver = s.receiver := rfl
@[simp] theorem State.refuse_deviceDraws (r : Result) : (s.refuse r).deviceDraws = s.deviceDraws := rfl

/-! ### `State.startPlan` -/

@[simp] theorem State.startPlan_params (pl : List Action) : (s.startPlan pl).params = s.params := rfl
@[simp] theorem State.startPlan_inited (pl : List Action) : (s.startPlan pl).inited = s.inited := rfl
@[simp] theorem State.startPlan_desync (pl : List Action) : (s.startPlan pl).desync = s.desync := rfl
@[simp] theorem State.startPlan_refHz (pl : List Action) : (s.startPlan pl).refHz = s.refHz := rfl
@[simp] theorem State.startPlan_shadow (pl : List Action) : (s.startPlan pl).shadow = s.shadow := rfl
@[simp] theorem State.startPlan_plan (pl : List Action) : (s.startPlan pl).plan = pl := rfl
@[simp] theorem State.startPlan_awaiting (pl : List Action) : (s.startPlan pl).awaiting = s.awaiting := rfl
@[simp] theorem State.startPlan_selOut (pl : List Action) : (s.startPlan pl).selOut = s.selOut := rfl
@[simp] theorem State.startPlan_rstOut (pl : List Action) : (s.startPlan pl).rstOut = s.rstOut := rfl
@[simp] theorem State.startPlan_port (pl : List Action) : (s.startPlan pl).port = s.port := rfl
@[simp] theorem State.startPlan_log (pl : List Action) : (s.startPlan pl).log = s.log := rfl
@[simp] theorem State.startPlan_answers (pl : List Action) : (s.startPlan pl).answers = s.answers := rfl
@[simp] theorem State.startPlan_replyDraws (pl : List Action) : (s.startPlan pl).replyDraws = s.replyDraws := rfl
@[simp] theorem State.startPlan_receiver (pl : List Action) : (s.startPlan pl).receiver = s.receiver := rfl
@[simp] theorem State.startPlan_deviceDraws (pl : List Action) : (s.startPlan pl).deviceDraws = s.deviceDraws := rfl

/-! ### `State.setInitialised` -/

@[simp] theorem State.setInitialised_params : (s.setInitialised).params = s.params := rfl
@[simp] theorem State.setInitialised_inited : (s.setInitialised).inited = true := rfl
@[simp] theorem State.setInitialised_desync : (s.setInitialised).desync = false := rfl
@[simp] theorem State.setInitialised_refHz : (s.setInitialised).refHz = s.refHz := rfl
@[simp] theorem State.setInitialised_shadow : (s.setInitialised).shadow = s.shadow := rfl
@[simp] theorem State.setInitialised_plan : (s.setInitialised).plan = s.plan := rfl
@[simp] theorem State.setInitialised_awaiting : (s.setInitialised).awaiting = s.awaiting := rfl
@[simp] theorem State.setInitialised_selOut : (s.setInitialised).selOut = s.selOut := rfl
@[simp] theorem State.setInitialised_rstOut : (s.setInitialised).rstOut = s.rstOut := rfl
@[simp] theorem State.setInitialised_port : (s.setInitialised).port = s.port := rfl
@[simp] theorem State.setInitialised_log : (s.setInitialised).log = s.log := rfl
@[simp] theorem State.setInitialised_answers : (s.setInitialised).answers = s.answers := rfl
@[simp] theorem State.setInitialised_replyDraws : (s.setInitialised).replyDraws = s.replyDraws := rfl
@[simp] theorem State.setInitialised_receiver : (s.setInitialised).receiver = s.receiver := rfl
@[simp] theorem State.setInitialised_deviceDraws : (s.setInitialised).deviceDraws = s.deviceDraws := rfl

/-! ### `State.setUninitialised` -/

@[simp] theorem State.setUninitialised_params : (s.setUninitialised).params = s.params := rfl
@[simp] theorem State.setUninitialised_inited : (s.setUninitialised).inited = false := rfl
@[simp] theorem State.setUninitialised_desync : (s.setUninitialised).desync = false := rfl
@[simp] theorem State.setUninitialised_refHz : (s.setUninitialised).refHz = none := rfl
@[simp] theorem State.setUninitialised_shadow : (s.setUninitialised).shadow = none := rfl
@[simp] theorem State.setUninitialised_plan : (s.setUninitialised).plan = s.plan := rfl
@[simp] theorem State.setUninitialised_awaiting : (s.setUninitialised).awaiting = s.awaiting := rfl
@[simp] theorem State.setUninitialised_selOut : (s.setUninitialised).selOut = s.selOut := rfl
@[simp] theorem State.setUninitialised_rstOut : (s.setUninitialised).rstOut = s.rstOut := rfl
@[simp] theorem State.setUninitialised_port : (s.setUninitialised).port = s.port := rfl
@[simp] theorem State.setUninitialised_log : (s.setUninitialised).log = s.log := rfl
@[simp] theorem State.setUninitialised_answers : (s.setUninitialised).answers = s.answers := rfl
@[simp] theorem State.setUninitialised_replyDraws : (s.setUninitialised).replyDraws = s.replyDraws := rfl
@[simp] theorem State.setUninitialised_receiver : (s.setUninitialised).receiver = s.receiver := rfl
@[simp] theorem State.setUninitialised_deviceDraws : (s.setUninitialised).deviceDraws = s.deviceDraws := rfl

/-! ### `State.setDesync` -/

@[simp] theorem State.setDesync_params : (s.setDesync).params = s.params := rfl
@[simp] theorem State.setDesync_inited : (s.setDesync).inited = s.inited := rfl
@[simp] theorem State.setDesync_desync : (s.setDesync).desync = true := rfl
@[simp] theorem State.setDesync_refHz : (s.setDesync).refHz = s.refHz := rfl
@[simp] theorem State.setDesync_shadow : (s.setDesync).shadow = s.shadow := rfl
@[simp] theorem State.setDesync_plan : (s.setDesync).plan = s.plan := rfl
@[simp] theorem State.setDesync_awaiting : (s.setDesync).awaiting = s.awaiting := rfl
@[simp] theorem State.setDesync_selOut : (s.setDesync).selOut = s.selOut := rfl
@[simp] theorem State.setDesync_rstOut : (s.setDesync).rstOut = s.rstOut := rfl
@[simp] theorem State.setDesync_port : (s.setDesync).port = s.port := rfl
@[simp] theorem State.setDesync_log : (s.setDesync).log = s.log := rfl
@[simp] theorem State.setDesync_answers : (s.setDesync).answers = s.answers := rfl
@[simp] theorem State.setDesync_replyDraws : (s.setDesync).replyDraws = s.replyDraws := rfl
@[simp] theorem State.setDesync_receiver : (s.setDesync).receiver = s.receiver := rfl
@[simp] theorem State.setDesync_deviceDraws : (s.setDesync).deviceDraws = s.deviceDraws := rfl

/-! ### `State.performSetSel` -/

@[simp] theorem State.performSetSel_params (l : Bool) (rest : List Action) : (s.performSetSel l rest).params = s.params := rfl
@[simp] theorem State.performSetSel_inited (l : Bool) (rest : List Action) : (s.performSetSel l rest).inited = s.inited := rfl
@[simp] theorem State.performSetSel_desync (l : Bool) (rest : List Action) : (s.performSetSel l rest).desync = s.desync := rfl
@[simp] theorem State.performSetSel_refHz (l : Bool) (rest : List Action) : (s.performSetSel l rest).refHz = s.refHz := rfl
@[simp] theorem State.performSetSel_shadow (l : Bool) (rest : List Action) : (s.performSetSel l rest).shadow = s.shadow := rfl
@[simp] theorem State.performSetSel_plan (l : Bool) (rest : List Action) : (s.performSetSel l rest).plan = rest := rfl
@[simp] theorem State.performSetSel_awaiting (l : Bool) (rest : List Action) : (s.performSetSel l rest).awaiting = s.awaiting := rfl
@[simp] theorem State.performSetSel_selOut (l : Bool) (rest : List Action) : (s.performSetSel l rest).selOut = l := rfl
@[simp] theorem State.performSetSel_rstOut (l : Bool) (rest : List Action) : (s.performSetSel l rest).rstOut = s.rstOut := rfl
@[simp] theorem State.performSetSel_port (l : Bool) (rest : List Action) : (s.performSetSel l rest).port = s.port := rfl
@[simp] theorem State.performSetSel_log (l : Bool) (rest : List Action) : (s.performSetSel l rest).log = s.log ++ [.event (.setSel l)] := rfl
@[simp] theorem State.performSetSel_answers (l : Bool) (rest : List Action) : (s.performSetSel l rest).answers = s.answers := rfl
@[simp] theorem State.performSetSel_replyDraws (l : Bool) (rest : List Action) : (s.performSetSel l rest).replyDraws = s.replyDraws := rfl
@[simp] theorem State.performSetSel_receiver (l : Bool) (rest : List Action) : (s.performSetSel l rest).receiver = s.receiver := rfl
@[simp] theorem State.performSetSel_deviceDraws (l : Bool) (rest : List Action) : (s.performSetSel l rest).deviceDraws = s.deviceDraws := rfl

/-! ### `State.performSetRst` -/

@[simp] theorem State.performSetRst_params (l : Bool) (rest : List Action) : (s.performSetRst l rest).params = (s.moveRst l).params := rfl
@[simp] theorem State.performSetRst_inited (l : Bool) (rest : List Action) : (s.performSetRst l rest).inited = (s.moveRst l).inited := rfl
@[simp] theorem State.performSetRst_desync (l : Bool) (rest : List Action) : (s.performSetRst l rest).desync = (s.moveRst l).desync := rfl
@[simp] theorem State.performSetRst_refHz (l : Bool) (rest : List Action) : (s.performSetRst l rest).refHz = (s.moveRst l).refHz := rfl
@[simp] theorem State.performSetRst_shadow (l : Bool) (rest : List Action) : (s.performSetRst l rest).shadow = (s.moveRst l).shadow := rfl
@[simp] theorem State.performSetRst_plan (l : Bool) (rest : List Action) : (s.performSetRst l rest).plan = rest := rfl
@[simp] theorem State.performSetRst_awaiting (l : Bool) (rest : List Action) : (s.performSetRst l rest).awaiting = (s.moveRst l).awaiting := rfl
@[simp] theorem State.performSetRst_selOut (l : Bool) (rest : List Action) : (s.performSetRst l rest).selOut = (s.moveRst l).selOut := rfl
@[simp] theorem State.performSetRst_rstOut (l : Bool) (rest : List Action) : (s.performSetRst l rest).rstOut = (s.moveRst l).rstOut := rfl
@[simp] theorem State.performSetRst_port (l : Bool) (rest : List Action) : (s.performSetRst l rest).port = (s.moveRst l).port := rfl
@[simp] theorem State.performSetRst_log (l : Bool) (rest : List Action) : (s.performSetRst l rest).log = s.log ++ [.event (.setRst l)] := rfl
@[simp] theorem State.performSetRst_answers (l : Bool) (rest : List Action) : (s.performSetRst l rest).answers = (s.moveRst l).answers := rfl
@[simp] theorem State.performSetRst_replyDraws (l : Bool) (rest : List Action) : (s.performSetRst l rest).replyDraws = (s.moveRst l).replyDraws := rfl
@[simp] theorem State.performSetRst_receiver (l : Bool) (rest : List Action) : (s.performSetRst l rest).receiver = (s.moveRst l).receiver := rfl
@[simp] theorem State.performSetRst_deviceDraws (l : Bool) (rest : List Action) : (s.performSetRst l rest).deviceDraws = (s.moveRst l).deviceDraws := rfl

/-! ### `State.performHold` -/

@[simp] theorem State.performHold_params (rest : List Action) : (s.performHold rest).params = s.params := rfl
@[simp] theorem State.performHold_inited (rest : List Action) : (s.performHold rest).inited = s.inited := rfl
@[simp] theorem State.performHold_desync (rest : List Action) : (s.performHold rest).desync = s.desync := rfl
@[simp] theorem State.performHold_refHz (rest : List Action) : (s.performHold rest).refHz = s.refHz := rfl
@[simp] theorem State.performHold_shadow (rest : List Action) : (s.performHold rest).shadow = s.shadow := rfl
@[simp] theorem State.performHold_plan (rest : List Action) : (s.performHold rest).plan = rest := rfl
@[simp] theorem State.performHold_awaiting (rest : List Action) : (s.performHold rest).awaiting = s.awaiting := rfl
@[simp] theorem State.performHold_selOut (rest : List Action) : (s.performHold rest).selOut = s.selOut := rfl
@[simp] theorem State.performHold_rstOut (rest : List Action) : (s.performHold rest).rstOut = s.rstOut := rfl
@[simp] theorem State.performHold_port (rest : List Action) : (s.performHold rest).port = s.port := rfl
@[simp] theorem State.performHold_log (rest : List Action) : (s.performHold rest).log = s.log ++ [.event .hold] := rfl
@[simp] theorem State.performHold_answers (rest : List Action) : (s.performHold rest).answers = s.answers := rfl
@[simp] theorem State.performHold_replyDraws (rest : List Action) : (s.performHold rest).replyDraws = s.replyDraws := rfl
@[simp] theorem State.performHold_receiver (rest : List Action) : (s.performHold rest).receiver = s.receiver := rfl
@[simp] theorem State.performHold_deviceDraws (rest : List Action) : (s.performHold rest).deviceDraws = s.deviceDraws := rfl

/-! ### `State.deviceTakes` -/

@[simp] theorem State.deviceTakes_params (w : Word16) : (s.deviceTakes w).params = s.params := rfl
@[simp] theorem State.deviceTakes_inited (w : Word16) : (s.deviceTakes w).inited = s.inited := rfl
@[simp] theorem State.deviceTakes_desync (w : Word16) : (s.deviceTakes w).desync = s.desync := rfl
@[simp] theorem State.deviceTakes_refHz (w : Word16) : (s.deviceTakes w).refHz = s.refHz := rfl
@[simp] theorem State.deviceTakes_shadow (w : Word16) : (s.deviceTakes w).shadow = s.shadow := rfl
@[simp] theorem State.deviceTakes_plan (w : Word16) : (s.deviceTakes w).plan = s.plan := rfl
@[simp] theorem State.deviceTakes_awaiting (w : Word16) : (s.deviceTakes w).awaiting = s.awaiting := rfl
@[simp] theorem State.deviceTakes_selOut (w : Word16) : (s.deviceTakes w).selOut = s.selOut := rfl
@[simp] theorem State.deviceTakes_rstOut (w : Word16) : (s.deviceTakes w).rstOut = s.rstOut := rfl
@[simp] theorem State.deviceTakes_port (w : Word16) : (s.deviceTakes w).port = s.port := rfl
@[simp] theorem State.deviceTakes_log (w : Word16) : (s.deviceTakes w).log = s.log := rfl
@[simp] theorem State.deviceTakes_answers (w : Word16) : (s.deviceTakes w).answers = s.answers := rfl
@[simp] theorem State.deviceTakes_replyDraws (w : Word16) : (s.deviceTakes w).replyDraws = s.replyDraws := rfl
@[simp] theorem State.deviceTakes_receiver (w : Word16) : (s.deviceTakes w).receiver = (s.receiver.consume s.params s.deviceDraws w).clockRuns s.deviceDraws := rfl
@[simp] theorem State.deviceTakes_deviceDraws (w : Word16) : (s.deviceTakes w).deviceDraws = s.deviceDraws + 1 := rfl

/-! ### `State.deviceUnknown` -/

@[simp] theorem State.deviceUnknown_params : (s.deviceUnknown).params = s.params := rfl
@[simp] theorem State.deviceUnknown_inited : (s.deviceUnknown).inited = s.inited := rfl
@[simp] theorem State.deviceUnknown_desync : (s.deviceUnknown).desync = s.desync := rfl
@[simp] theorem State.deviceUnknown_refHz : (s.deviceUnknown).refHz = s.refHz := rfl
@[simp] theorem State.deviceUnknown_shadow : (s.deviceUnknown).shadow = s.shadow := rfl
@[simp] theorem State.deviceUnknown_plan : (s.deviceUnknown).plan = s.plan := rfl
@[simp] theorem State.deviceUnknown_awaiting : (s.deviceUnknown).awaiting = s.awaiting := rfl
@[simp] theorem State.deviceUnknown_selOut : (s.deviceUnknown).selOut = s.selOut := rfl
@[simp] theorem State.deviceUnknown_rstOut : (s.deviceUnknown).rstOut = s.rstOut := rfl
@[simp] theorem State.deviceUnknown_port : (s.deviceUnknown).port = s.port := rfl
@[simp] theorem State.deviceUnknown_log : (s.deviceUnknown).log = s.log := rfl
@[simp] theorem State.deviceUnknown_answers : (s.deviceUnknown).answers = s.answers := rfl
@[simp] theorem State.deviceUnknown_replyDraws : (s.deviceUnknown).replyDraws = s.replyDraws := rfl
@[simp] theorem State.deviceUnknown_receiver : (s.deviceUnknown).receiver = Receiver.anyValue s.params s.deviceDraws := rfl
@[simp] theorem State.deviceUnknown_deviceDraws : (s.deviceUnknown).deviceDraws = s.deviceDraws + 1 := rfl

/-! ### `State.answeredOk` -/

@[simp] theorem State.answeredOk_params (w : Word16) (rest : List Action) : (s.answeredOk w rest).params = s.params := rfl
@[simp] theorem State.answeredOk_inited (w : Word16) (rest : List Action) : (s.answeredOk w rest).inited = s.inited := rfl
@[simp] theorem State.answeredOk_desync (w : Word16) (rest : List Action) : (s.answeredOk w rest).desync = s.desync := rfl
@[simp] theorem State.answeredOk_refHz (w : Word16) (rest : List Action) : (s.answeredOk w rest).refHz = s.refHz := rfl
@[simp] theorem State.answeredOk_shadow (w : Word16) (rest : List Action) : (s.answeredOk w rest).shadow = s.shadow := rfl
@[simp] theorem State.answeredOk_plan (w : Word16) (rest : List Action) : (s.answeredOk w rest).plan = rest := rfl
@[simp] theorem State.answeredOk_awaiting (w : Word16) (rest : List Action) : (s.answeredOk w rest).awaiting = false := rfl
@[simp] theorem State.answeredOk_selOut (w : Word16) (rest : List Action) : (s.answeredOk w rest).selOut = s.selOut := rfl
@[simp] theorem State.answeredOk_rstOut (w : Word16) (rest : List Action) : (s.answeredOk w rest).rstOut = s.rstOut := rfl
@[simp] theorem State.answeredOk_port (w : Word16) (rest : List Action) : (s.answeredOk w rest).port = s.port := rfl
@[simp] theorem State.answeredOk_log (w : Word16) (rest : List Action) : (s.answeredOk w rest).log = s.log ++ [.answer .ok] := rfl
@[simp] theorem State.answeredOk_answers (w : Word16) (rest : List Action) : (s.answeredOk w rest).answers = s.answers := rfl
@[simp] theorem State.answeredOk_replyDraws (w : Word16) (rest : List Action) : (s.answeredOk w rest).replyDraws = s.replyDraws := rfl
@[simp] theorem State.answeredOk_receiver (w : Word16) (rest : List Action) : (s.answeredOk w rest).receiver = (s.receiver.consume s.params s.deviceDraws w).clockRuns s.deviceDraws := rfl
@[simp] theorem State.answeredOk_deviceDraws (w : Word16) (rest : List Action) : (s.answeredOk w rest).deviceDraws = s.deviceDraws + 1 := rfl

/-! ### `State.answeredErr` -/

@[simp] theorem State.answeredErr_params (e : TErr) (rest : List Action) : (s.answeredErr e rest).params = s.params := rfl
@[simp] theorem State.answeredErr_inited (e : TErr) (rest : List Action) : (s.answeredErr e rest).inited = s.inited := rfl
@[simp] theorem State.answeredErr_desync (e : TErr) (rest : List Action) : (s.answeredErr e rest).desync = s.desync := rfl
@[simp] theorem State.answeredErr_refHz (e : TErr) (rest : List Action) : (s.answeredErr e rest).refHz = s.refHz := rfl
@[simp] theorem State.answeredErr_shadow (e : TErr) (rest : List Action) : (s.answeredErr e rest).shadow = s.shadow := rfl
@[simp] theorem State.answeredErr_plan (e : TErr) (rest : List Action) : (s.answeredErr e rest).plan = abortPlan s.params rest e := rfl
@[simp] theorem State.answeredErr_awaiting (e : TErr) (rest : List Action) : (s.answeredErr e rest).awaiting = false := rfl
@[simp] theorem State.answeredErr_selOut (e : TErr) (rest : List Action) : (s.answeredErr e rest).selOut = s.selOut := rfl
@[simp] theorem State.answeredErr_rstOut (e : TErr) (rest : List Action) : (s.answeredErr e rest).rstOut = s.rstOut := rfl
@[simp] theorem State.answeredErr_port (e : TErr) (rest : List Action) : (s.answeredErr e rest).port = s.port := rfl
@[simp] theorem State.answeredErr_log (e : TErr) (rest : List Action) : (s.answeredErr e rest).log = s.log ++ [.answer (.err e)] := rfl
@[simp] theorem State.answeredErr_answers (e : TErr) (rest : List Action) : (s.answeredErr e rest).answers = s.answers := rfl
@[simp] theorem State.answeredErr_replyDraws (e : TErr) (rest : List Action) : (s.answeredErr e rest).replyDraws = s.replyDraws := rfl
@[simp] theorem State.answeredErr_receiver (e : TErr) (rest : List Action) : (s.answeredErr e rest).receiver = Receiver.anyValue s.params s.deviceDraws := rfl
@[simp] theorem State.answeredErr_deviceDraws (e : TErr) (rest : List Action) : (s.answeredErr e rest).deviceDraws = s.deviceDraws + 1 := rfl

/-! ### `State.performCommit` -/

@[simp] theorem State.performCommit_params (c : Commit) (rest : List Action) : (s.performCommit c rest).params = (s.commitUpdate c).params := rfl
@[simp] theorem State.performCommit_inited (c : Commit) (rest : List Action) : (s.performCommit c rest).inited = (s.commitUpdate c).inited := rfl
@[simp] theorem State.performCommit_desync (c : Commit) (rest : List Action) : (s.performCommit c rest).desync = (s.commitUpdate c).desync := rfl
@[simp] theorem State.performCommit_refHz (c : Commit) (rest : List Action) : (s.performCommit c rest).refHz = (s.commitUpdate c).refHz := rfl
@[simp] theorem State.performCommit_shadow (c : Commit) (rest : List Action) : (s.performCommit c rest).shadow = (s.commitUpdate c).shadow := rfl
@[simp] theorem State.performCommit_plan (c : Commit) (rest : List Action) : (s.performCommit c rest).plan = rest := rfl
@[simp] theorem State.performCommit_awaiting (c : Commit) (rest : List Action) : (s.performCommit c rest).awaiting = (s.commitUpdate c).awaiting := rfl
@[simp] theorem State.performCommit_selOut (c : Commit) (rest : List Action) : (s.performCommit c rest).selOut = (s.commitUpdate c).selOut := rfl
@[simp] theorem State.performCommit_rstOut (c : Commit) (rest : List Action) : (s.performCommit c rest).rstOut = (s.commitUpdate c).rstOut := rfl
@[simp] theorem State.performCommit_port (c : Commit) (rest : List Action) : (s.performCommit c rest).port = (s.commitUpdate c).port := rfl
@[simp] theorem State.performCommit_log (c : Commit) (rest : List Action) : (s.performCommit c rest).log = s.log ++ [.result (commitResult c)] := rfl
@[simp] theorem State.performCommit_answers (c : Commit) (rest : List Action) : (s.performCommit c rest).answers = (s.commitUpdate c).answers := rfl
@[simp] theorem State.performCommit_replyDraws (c : Commit) (rest : List Action) : (s.performCommit c rest).replyDraws = (s.commitUpdate c).replyDraws := rfl
@[simp] theorem State.performCommit_receiver (c : Commit) (rest : List Action) : (s.performCommit c rest).receiver = (s.commitUpdate c).receiver := rfl
@[simp] theorem State.performCommit_deviceDraws (c : Commit) (rest : List Action) : (s.performCommit c rest).deviceDraws = (s.commitUpdate c).deviceDraws := rfl

/-! ### `State.placeCommand` -/

@[simp] theorem State.placeCommand_params (c : CmdWord) : (s.placeCommand c).params = s.params := rfl
@[simp] theorem State.placeCommand_inited (c : CmdWord) : (s.placeCommand c).inited = s.inited := rfl
@[simp] theorem State.placeCommand_desync (c : CmdWord) : (s.placeCommand c).desync = s.desync := rfl
@[simp] theorem State.placeCommand_refHz (c : CmdWord) : (s.placeCommand c).refHz = s.refHz := rfl
@[simp] theorem State.placeCommand_shadow (c : CmdWord) : (s.placeCommand c).shadow = s.shadow := rfl
@[simp] theorem State.placeCommand_plan (c : CmdWord) : (s.placeCommand c).plan = [] := rfl
@[simp] theorem State.placeCommand_awaiting (c : CmdWord) : (s.placeCommand c).awaiting = false := rfl
@[simp] theorem State.placeCommand_selOut (c : CmdWord) : (s.placeCommand c).selOut = s.selOut := rfl
@[simp] theorem State.placeCommand_rstOut (c : CmdWord) : (s.placeCommand c).rstOut = s.rstOut := rfl
@[simp] theorem State.placeCommand_port (c : CmdWord) : (s.placeCommand c).port = c :: s.port := rfl
@[simp] theorem State.placeCommand_log (c : CmdWord) : (s.placeCommand c).log = s.log := rfl
@[simp] theorem State.placeCommand_answers (c : CmdWord) : (s.placeCommand c).answers = s.answers := rfl
@[simp] theorem State.placeCommand_replyDraws (c : CmdWord) : (s.placeCommand c).replyDraws = s.replyDraws := rfl
@[simp] theorem State.placeCommand_receiver (c : CmdWord) : (s.placeCommand c).receiver = s.receiver := rfl
@[simp] theorem State.placeCommand_deviceDraws (c : CmdWord) : (s.placeCommand c).deviceDraws = s.deviceDraws := rfl

/-! ### `State.takeReply` -/

@[simp] theorem State.takeReply_params : (s.takeReply).params = s.params := by unfold State.takeReply; split <;> rfl
@[simp] theorem State.takeReply_inited : (s.takeReply).inited = s.inited := by unfold State.takeReply; split <;> rfl
@[simp] theorem State.takeReply_desync : (s.takeReply).desync = s.desync := by unfold State.takeReply; split <;> rfl
@[simp] theorem State.takeReply_refHz : (s.takeReply).refHz = s.refHz := by unfold State.takeReply; split <;> rfl
@[simp] theorem State.takeReply_shadow : (s.takeReply).shadow = s.shadow := by unfold State.takeReply; split <;> rfl
@[simp] theorem State.takeReply_plan : (s.takeReply).plan = s.plan := by unfold State.takeReply; split <;> rfl
@[simp] theorem State.takeReply_awaiting : (s.takeReply).awaiting = s.awaiting := by unfold State.takeReply; split <;> rfl
@[simp] theorem State.takeReply_selOut : (s.takeReply).selOut = s.selOut := by unfold State.takeReply; split <;> rfl
@[simp] theorem State.takeReply_rstOut : (s.takeReply).rstOut = s.rstOut := by unfold State.takeReply; split <;> rfl
@[simp] theorem State.takeReply_port : (s.takeReply).port = s.port := by unfold State.takeReply; split <;> rfl
@[simp] theorem State.takeReply_log : (s.takeReply).log = s.log := by unfold State.takeReply; split <;> rfl
@[simp] theorem State.takeReply_receiver : (s.takeReply).receiver = s.receiver := by unfold State.takeReply; split <;> rfl
@[simp] theorem State.takeReply_deviceDraws : (s.takeReply).deviceDraws = s.deviceDraws := by unfold State.takeReply; split <;> rfl

/-! ### `State.moveRst` -/

@[simp] theorem State.moveRst_params (l : Bool) : (s.moveRst l).params = s.params := by unfold State.moveRst; split <;> rfl
@[simp] theorem State.moveRst_inited (l : Bool) : (s.moveRst l).inited = s.inited := by unfold State.moveRst; split <;> rfl
@[simp] theorem State.moveRst_desync (l : Bool) : (s.moveRst l).desync = s.desync := by unfold State.moveRst; split <;> rfl
@[simp] theorem State.moveRst_refHz (l : Bool) : (s.moveRst l).refHz = s.refHz := by unfold State.moveRst; split <;> rfl
@[simp] theorem State.moveRst_shadow (l : Bool) : (s.moveRst l).shadow = s.shadow := by unfold State.moveRst; split <;> rfl
@[simp] theorem State.moveRst_plan (l : Bool) : (s.moveRst l).plan = s.plan := by unfold State.moveRst; split <;> rfl
@[simp] theorem State.moveRst_awaiting (l : Bool) : (s.moveRst l).awaiting = s.awaiting := by unfold State.moveRst; split <;> rfl
@[simp] theorem State.moveRst_selOut (l : Bool) : (s.moveRst l).selOut = s.selOut := by unfold State.moveRst; split <;> rfl
@[simp] theorem State.moveRst_rstOut (l : Bool) : (s.moveRst l).rstOut = l := by unfold State.moveRst; split <;> rfl
@[simp] theorem State.moveRst_port (l : Bool) : (s.moveRst l).port = s.port := by unfold State.moveRst; split <;> rfl
@[simp] theorem State.moveRst_log (l : Bool) : (s.moveRst l).log = s.log := by unfold State.moveRst; split <;> rfl
@[simp] theorem State.moveRst_answers (l : Bool) : (s.moveRst l).answers = s.answers := by unfold State.moveRst; split <;> rfl
@[simp] theorem State.moveRst_replyDraws (l : Bool) : (s.moveRst l).replyDraws = s.replyDraws := by unfold State.moveRst; split <;> rfl

/-! ### `State.handOver` -/

@[simp] theorem State.handOver_params (w : Word16) : (s.handOver w).params = s.params := by unfold State.handOver; split <;> rfl
@[simp] theorem State.handOver_inited (w : Word16) : (s.handOver w).inited = s.inited := by unfold State.handOver; split <;> rfl
@[simp] theorem State.handOver_desync (w : Word16) : (s.handOver w).desync = s.desync := by unfold State.handOver; split <;> rfl
@[simp] theorem State.handOver_refHz (w : Word16) : (s.handOver w).refHz = s.refHz := by unfold State.handOver; split <;> rfl
@[simp] theorem State.handOver_shadow (w : Word16) : (s.handOver w).shadow = s.shadow := by unfold State.handOver; split <;> rfl
@[simp] theorem State.handOver_plan (w : Word16) : (s.handOver w).plan = s.plan := by unfold State.handOver; split <;> rfl
@[simp] theorem State.handOver_selOut (w : Word16) : (s.handOver w).selOut = s.selOut := by unfold State.handOver; split <;> rfl
@[simp] theorem State.handOver_rstOut (w : Word16) : (s.handOver w).rstOut = s.rstOut := by unfold State.handOver; split <;> rfl
@[simp] theorem State.handOver_port (w : Word16) : (s.handOver w).port = s.port := by unfold State.handOver; split <;> rfl
@[simp] theorem State.handOver_answers (w : Word16) : (s.handOver w).answers = s.answers := by unfold State.handOver; split <;> rfl
@[simp] theorem State.handOver_replyDraws (w : Word16) : (s.handOver w).replyDraws = s.replyDraws := by unfold State.handOver; split <;> rfl
@[simp] theorem State.handOver_receiver (w : Word16) : (s.handOver w).receiver = s.receiver := by unfold State.handOver; split <;> rfl
@[simp] theorem State.handOver_deviceDraws (w : Word16) : (s.handOver w).deviceDraws = s.deviceDraws := by unfold State.handOver; split <;> rfl
@[simp] theorem State.handOver_awaiting (w : Word16) : (s.handOver w).awaiting = true := by
  unfold State.handOver; split <;> simp_all

/-! ### `State.commitUpdate` -/

@[simp] theorem State.commitUpdate_params (c : Commit) : (s.commitUpdate c).params = s.params := by cases c <;> rfl
@[simp] theorem State.commitUpdate_plan (c : Commit) : (s.commitUpdate c).plan = s.plan := by cases c <;> rfl
@[simp] theorem State.commitUpdate_awaiting (c : Commit) : (s.commitUpdate c).awaiting = s.awaiting := by cases c <;> rfl
@[simp] theorem State.commitUpdate_selOut (c : Commit) : (s.commitUpdate c).selOut = s.selOut := by cases c <;> rfl
@[simp] theorem State.commitUpdate_rstOut (c : Commit) : (s.commitUpdate c).rstOut = s.rstOut := by cases c <;> rfl
@[simp] theorem State.commitUpdate_port (c : Commit) : (s.commitUpdate c).port = s.port := by cases c <;> rfl
@[simp] theorem State.commitUpdate_log (c : Commit) : (s.commitUpdate c).log = s.log := by cases c <;> rfl
@[simp] theorem State.commitUpdate_answers (c : Commit) : (s.commitUpdate c).answers = s.answers := by cases c <;> rfl
@[simp] theorem State.commitUpdate_replyDraws (c : Commit) : (s.commitUpdate c).replyDraws = s.replyDraws := by cases c <;> rfl
@[simp] theorem State.commitUpdate_receiver (c : Commit) : (s.commitUpdate c).receiver = s.receiver := by cases c <;> rfl
@[simp] theorem State.commitUpdate_deviceDraws (c : Commit) : (s.commitUpdate c).deviceDraws = s.deviceDraws := by cases c <;> rfl

/-- A word handed over for the first time is recorded (R290). -/
@[simp] theorem State.handOver_log_of_idle (w : Word16) (h : s.awaiting = false) :
    (s.handOver w).log = s.log ++ [.event (.xfer w)] := by
  simp [State.handOver, h]

/-- A word already handed over is not recorded again (R290). -/
@[simp] theorem State.handOver_of_awaiting (w : Word16) (h : s.awaiting = true) : s.handOver w = s := by
  simp [State.handOver, h]

/-- The first listed answer is the next one. -/
theorem State.nextReply_of_cons (r : Option Reply) (as : List (Option Reply)) (h : s.answers = r :: as) :
    s.nextReply = r := by
  simp [State.nextReply, h]

/-- Taking a listed answer removes it and draws nothing. -/
theorem State.takeReply_of_cons (r : Option Reply) (as : List (Option Reply)) (h : s.answers = r :: as) :
    s.takeReply = { s with answers := as } := by
  simp [State.takeReply, h]

/-! ### The views of the log -/

@[simp] theorem State.trace_emit (x : PortItem) :
    (s.emit x).trace = s.trace ++ [x].filterMap (fun
      | .event e => some e
      | .command _ => none
      | .answer _ => none
      | .result _ => none) :=
  List.filterMap_append

/-- A refusal adds no event (R242). -/
@[simp] theorem State.refuse_trace (r : Result) : (s.refuse r).trace = s.trace := by
  simp [State.trace]

/-- A refusal gives its one result (R108). -/
@[simp] theorem State.refuse_results (r : Result) : (s.refuse r).results = s.results ++ [r] := by
  simp [State.results]

/-- A refusal accepts no command. -/
@[simp] theorem State.refuse_commands (r : Result) : (s.refuse r).commands = s.commands := by
  simp [State.commands]

@[simp] theorem State.accept_trace (c : CmdWord) (ps : List CmdWord) : (s.accept c ps).trace = s.trace := by
  simp [State.trace]

@[simp] theorem State.accept_results (c : CmdWord) (ps : List CmdWord) : (s.accept c ps).results = s.results := by
  simp [State.results]

@[simp] theorem State.accept_commands (c : CmdWord) (ps : List CmdWord) :
    (s.accept c ps).commands = s.commands ++ [c] := by
  simp [State.commands]

end Sys2Proof.Machine
end

