-- ==== Sys2Proof/Laws/Ops.lean ====
section
/-! SUPPORT. What each shared operation can do, said once: the provers cite these lemmas and do not unfold the
operations. -/

namespace Sys2Proof.Machine

/-! ### The checks -/

/-- The check of the flags passes exactly in a ready block (R255, steps 3 and 4). -/
theorem notReady_eq_none_iff (s : State) : s.notReady = none ↔ s.Ready := by
  unfold State.notReady State.Ready
  cases s.inited <;> cases s.desync <;> simp

/-- R244. -/
theorem notReady_of_not_inited (s : State) (h : s.inited = false) : s.notReady = some .notInitialised := by
  simp [State.notReady, h]

/-- R251. -/
theorem notReady_of_desync (s : State) (h : s.inited = true) (hd : s.desync = true) :
    s.notReady = some .deviceStateUnknown := by
  simp [State.notReady, h, hd]

/-- The check of the flags answers with one of two results. -/
theorem notReady_some (s : State) (r : Result) (h : s.notReady = some r) :
    (r = .notInitialised ∧ s.inited = false) ∨ (r = .deviceStateUnknown ∧ s.inited = true ∧ s.desync = true) := by
  unfold State.notReady at h
  cases hi : s.inited <;> cases hd : s.desync <;> simp_all

/-- A channel operand selects a channel exactly when it is below 2 (R87, R246). -/
theorem channelOf_eq_none_iff (ch : BitVec 8) : channelOf ch = none ↔ 2 ≤ ch.toNat := by
  unfold channelOf
  split
  · simp_all
  · split
    · simp_all
    · constructor
      · intro _
        have h0 : ch.toNat ≠ 0 := fun h => by
          have : ch = 0 := BitVec.eq_of_toNat_eq (by simpa using h)
          contradiction
        have h1 : ch.toNat ≠ 1 := fun h => by
          have : ch = 1 := BitVec.eq_of_toNat_eq (by simpa using h)
          contradiction
        omega
      · intro _; rfl

/-! ### The operations that start a plan -/

theorem fieldSet_of_some (s : State) (mask val sh : Word16) (h : s.shadow = some sh) :
    s.fieldSet mask val =
      .next ({ s with shadow := some (insertField sh mask val) }.startPlan
        (oneWritePlan s.params (insertField sh mask val))) := by
  simp [State.fieldSet, h]

theorem startFreqWrite_of_some (s : State) (ch : Channel) (w : FreqWord) (sh : Word16) (h : s.shadow = some sh) :
    s.startFreqWrite ch w = .next (s.startPlan (freqWritePlan s.params sh ch w)) := by
  simp [State.startFreqWrite, h]

/-- A field write that answers a next state found a shadow, and this is that state (R190). -/
theorem fieldSet_next (s t : State) (mask val : Word16) (h : s.fieldSet mask val = .next t) :
    ∃ sh, s.shadow = some sh ∧ t = { s with
      shadow := some (insertField sh mask val)
      plan := oneWritePlan s.params (insertField sh mask val) } := by
  unfold State.fieldSet at h
  split at h
  · cases h
  · rename_i sh hs
    cases h
    exact ⟨sh, hs, rfl⟩

/-- A frequency write that answers a next state found a shadow, and this is that state (R145). -/
theorem startFreqWrite_next (s t : State) (ch : Channel) (w : FreqWord) (h : s.startFreqWrite ch w = .next t) :
    ∃ sh, s.shadow = some sh ∧ t = { s with plan := freqWritePlan s.params sh ch w } := by
  unfold State.startFreqWrite at h
  split at h
  · cases h
  · rename_i sh hs
    cases h
    exact ⟨sh, hs, rfl⟩

/-- What a scaled frequency write can do (R151, R152). -/
theorem setScaledFrequency_next (s t : State) (c : Channel) (q : BitVec 48)
    (h : setScaledFrequency c q s = .next t) :
    t = s.refuse .frequencyOutOfRange ∨
      ∃ sh w, s.shadow = some sh ∧ t = { s with plan := freqWritePlan s.params sh c w } := by
  unfold setScaledFrequency at h
  split at h
  · cases h; exact .inl rfl
  · split at h
    · cases h
    · split at h
      · cases h
      · split at h
        · cases h; exact .inl rfl
        · obtain ⟨sh, hs, ht⟩ := startFreqWrite_next _ _ _ _ h
          exact .inr ⟨sh, _, hs, ht⟩

/-- What accepting a command can do (R290 `Accept`): it is refused with one of the results that are no transport error,
or one of the four kinds of plan is set. -/
theorem exec_next (i : Instr) (s t : State) (h : exec i s = .next t) :
    (∃ r, r ≠ .ok ∧ (∀ e, r ≠ .transportError e) ∧ t = s.refuse r) ∨
    (∃ f, f ≠ 0 ∧ i = .init f ∧ t = { s with plan := initPlan s.params f }) ∨
    (s.Ready ∧ ∃ sh ch w, s.shadow = some sh ∧ t = { s with plan := freqWritePlan s.params sh ch w }) ∨
    (s.Ready ∧ ∃ c w ch, i = .setPhaseWord ch w ∧ channelOf ch = some c ∧
      t = { s with plan := oneWritePlan s.params (phaseBusWord s.params.layout c w) }) ∨
    (s.Ready ∧ ∃ sh mask val, s.shadow = some sh ∧ fieldWritten s.params.layout i = some (mask, val) ∧ t = { s with
      shadow := some (insertField sh mask val)
      plan := oneWritePlan s.params (insertField sh mask val) }) ∨
    (s.Ready ∧ i = .reset ∧ t = { s with plan := resetPlan s.params }) := by
  have notOk : ∀ r, s.notReady = some r → r ≠ .ok ∧ ∀ e, r ≠ .transportError e := by
    intro r hr
    rcases notReady_some s r hr with ⟨rfl, _⟩ | ⟨rfl, _⟩ <;> exact ⟨by simp, by simp⟩
  cases i with
  | init f =>
    simp only [exec, execInit] at h
    split at h <;> cases h
    · exact .inl ⟨_, by simp, by simp, rfl⟩
    · rename_i hf
      exact .inr (.inl ⟨f, hf, rfl, rfl⟩)
  | setFrequency ch q =>
    simp only [exec, execSetFrequency] at h
    split at h
    · rename_i r hr
      cases h
      exact .inl ⟨r, (notOk r hr).1, (notOk r hr).2, rfl⟩
    · rename_i hr
      split at h
      · cases h
        exact .inl ⟨_, by simp, by simp, rfl⟩
      · rename_i c hc
        rcases setScaledFrequency_next _ _ _ _ h with ht | ⟨sh, w, hs, ht⟩
        · exact .inl ⟨_, by simp, by simp, ht⟩
        · exact .inr (.inr (.inl ⟨(notReady_eq_none_iff s).1 hr, sh, c, w, hs, ht⟩))
  | setFrequencyWord ch raw =>
    simp only [exec, execSetFrequencyWord] at h
    split at h
    · rename_i r hr
      cases h
      exact .inl ⟨r, (notOk r hr).1, (notOk r hr).2, rfl⟩
    · rename_i hr
      split at h
      · cases h
        exact .inl ⟨_, by simp, by simp, rfl⟩
      · rename_i c hc
        split at h
        · cases h
          exact .inl ⟨_, by simp, by simp, rfl⟩
        · obtain ⟨sh, hs, ht⟩ := startFreqWrite_next _ _ _ _ h
          exact .inr (.inr (.inl ⟨(notReady_eq_none_iff s).1 hr, sh, c, _, hs, ht⟩))
  | setPhaseWord ch w =>
    simp only [exec, execSetPhaseWord] at h
    split at h
    · rename_i r hr
      cases h
      exact .inl ⟨r, (notOk r hr).1, (notOk r hr).2, rfl⟩
    · rename_i hr
      split at h <;> cases h
      · exact .inl ⟨_, by simp, by simp, rfl⟩
      · rename_i c hc
        exact .inr (.inr (.inr (.inl ⟨(notReady_eq_none_iff s).1 hr, c, w, ch, rfl, hc, rfl⟩)))
  | setSignOutput c =>
    simp only [exec, execSetSignOutput] at h
    split at h
    · rename_i r hr
      cases h
      exact .inl ⟨r, (notOk r hr).1, (notOk r hr).2, rfl⟩
    · rename_i hr
      obtain ⟨sh, hs, ht⟩ := fieldSet_next _ _ _ _ h
      exact .inr (.inr (.inr (.inr (.inl ⟨(notReady_eq_none_iff s).1 hr, sh, _, _, hs, rfl, ht⟩))))
  | setOutputMode m =>
    simp only [exec, execSetOutputMode] at h
    split at h
    · rename_i r hr
      cases h
      exact .inl ⟨r, (notOk r hr).1, (notOk r hr).2, rfl⟩
    · rename_i hr
      obtain ⟨sh, hs, ht⟩ := fieldSet_next _ _ _ _ h
      exact .inr (.inr (.inr (.inr (.inl ⟨(notReady_eq_none_iff s).1 hr, sh, _, _, hs, rfl, ht⟩))))
  | setSleep z =>
    simp only [exec, execSetSleep] at h
    split at h
    · rename_i r hr
      cases h
      exact .inl ⟨r, (notOk r hr).1, (notOk r hr).2, rfl⟩
    · rename_i hr
      obtain ⟨sh, hs, ht⟩ := fieldSet_next _ _ _ _ h
      exact .inr (.inr (.inr (.inr (.inl ⟨(notReady_eq_none_iff s).1 hr, sh, _, _, hs, rfl, ht⟩))))
  | setOutputWave k =>
    simp only [exec, execSetOutputWave] at h
    split at h
    · rename_i r hr
      cases h
      exact .inl ⟨r, (notOk r hr).1, (notOk r hr).2, rfl⟩
    · rename_i hr
      split at h
      · cases h
        exact .inl ⟨_, by simp, by simp, rfl⟩
      · rename_i c m hw
        obtain ⟨sh, hs, ht⟩ := fieldSet_next _ _ _ _ h
        exact .inr (.inr (.inr (.inr (.inl
          ⟨(notReady_eq_none_iff s).1 hr, sh, _, _, hs, by simp [fieldWritten, hw], ht⟩))))
  | reset =>
    simp only [exec, execReset] at h
    split at h
    · rename_i r hr
      cases h
      exact .inl ⟨r, (notOk r hr).1, (notOk r hr).2, rfl⟩
    · rename_i hr
      cases h
      exact .inr (.inr (.inr (.inr (.inr ⟨(notReady_eq_none_iff s).1 hr, rfl, rfl⟩))))

/-! ### The micro-steps -/

/-- What a transfer at the head of the plan can do (R225, R253, R290). -/
theorem performXfer_next (s t : State) (w : Word16) (rest : List Action) (h : s.performXfer w rest = .next t) :
    (s.nextReply = some .ok ∧ t = (s.handOver w).takeReply.answeredOk w rest) ∨
    (∃ e, s.nextReply = some (.err e) ∧ t = (s.handOver w).takeReply.answeredErr e rest) ∨
    (s.nextReply = none ∧ s.awaiting = false ∧ t = s.handOver w) := by
  unfold State.performXfer at h
  split at h
  · cases h; exact .inl ⟨‹_›, rfl⟩
  · rename_i e he
    cases h; exact .inr (.inl ⟨e, he, rfl⟩)
  · split at h
    · cases h
    · rename_i hn ha
      cases h; exact .inr (.inr ⟨hn, by simpa using ha, rfl⟩)

/-- What a step can do (R290): perform the head of the plan, wait at an empty port, or accept the next command. -/
theorem step_next (s t : State) (h : step s = .next t) :
    (∃ a rest, s.plan = a :: rest ∧ perform a rest s = .next t) ∨
    (s.plan = [] ∧ s.port = [] ∧ t = s) ∨
    (∃ cmd ps, s.plan = [] ∧ s.port = cmd :: ps ∧ (∃ e, decode s.params cmd = .error e) ∧
      t = (s.accept cmd ps).refuse .illegalCommand) ∨
    (∃ cmd ps i, s.plan = [] ∧ s.port = cmd :: ps ∧ decode s.params cmd = .ok i ∧
      exec i (s.accept cmd ps) = .next t) := by
  unfold step microStep at h
  split at h
  · rename_i a rest hp
    exact .inl ⟨a, rest, hp, h⟩
  · rename_i hp
    split at h
    · rename_i hq
      cases h; exact .inr (.inl ⟨hp, hq, rfl⟩)
    · rename_i cmd ps hq
      unfold acceptCommand at h
      split at h
      · rename_i e he
        cases h; exact .inr (.inr (.inl ⟨cmd, ps, hp, hq, ⟨e, he⟩, rfl⟩))
      · rename_i i hi
        exact .inr (.inr (.inr ⟨cmd, ps, i, hp, hq, hi, h⟩))

end Sys2Proof.Machine
end

