-- ==== Sys2Proof/Laws/PerInstr.lean ====
section
/-! SUPPORT. Statements made per command: the encoding of each carries its own opcode and a zero `rsv` field (R82,
R83), and agrees with the must-be-zero fields of R83. -/

namespace Sys2Proof.Laws

/-- Each bit of a made word comes from the field it stands in (R82). -/
theorem getLsbD_make (op : BitVec 4) (sel : BitVec 8) (data : BitVec 48) (i : Nat) :
    (CmdWord.make op sel data).getLsbD i =
      if i < 48 then data.getLsbD i
      else if i < 52 then false
      else if i < 60 then sel.getLsbD (i - 52)
      else op.getLsbD (i - 60) := by
  have h : (CmdWord.make op sel data).getLsbD i =
      (op ++ (sel ++ ((0 : BitVec 4) ++ data)) : BitVec (4 + (8 + (4 + 48)))).getLsbD i := rfl
  rw [h, BitVec.getLsbD_append, BitVec.getLsbD_append, BitVec.getLsbD_append]
  by_cases h1 : i < 48
  · simp [h1, show i < 60 by omega, show i < 52 by omega]
  · by_cases h2 : i < 52
    · simp [h1, h2, show i < 60 by omega]
    · by_cases h3 : i < 60 <;> simp [h1, h2, h3]

/-- Field `op` of a made word (R82). -/
theorem op_make (op : BitVec 4) (sel : BitVec 8) (data : BitVec 48) : (CmdWord.make op sel data).op = op := by
  apply BitVec.eq_of_getLsbD_eq
  intro i hi
  simp [CmdWord.op, getLsbD_make, hi, show ¬ 60 + i < 48 by omega, show ¬ 60 + i < 52 by omega]

/-- Field `sel` of a made word (R82). -/
theorem sel_make (op : BitVec 4) (sel : BitVec 8) (data : BitVec 48) : (CmdWord.make op sel data).sel = sel := by
  apply BitVec.eq_of_getLsbD_eq
  intro i hi
  simp [CmdWord.sel, getLsbD_make, hi, show ¬ 52 + i < 48 by omega, show 52 + i < 60 by omega]

/-- Field `rsv` of a made word is zero (R82, R83). -/
theorem rsv_make (op : BitVec 4) (sel : BitVec 8) (data : BitVec 48) : (CmdWord.make op sel data).rsv = 0 := by
  apply BitVec.eq_of_getLsbD_eq
  intro i hi
  simp [CmdWord.rsv, getLsbD_make, show 48 + i < 52 by omega]

/-- Field `data` of a made word (R82). -/
theorem data_make (op : BitVec 4) (sel : BitVec 8) (data : BitVec 48) : (CmdWord.make op sel data).data = data := by
  apply BitVec.eq_of_getLsbD_eq
  intro i hi
  simp [CmdWord.data, getLsbD_make, hi]

namespace EncodesItsOpcode

/-- The encoding of a command carries its opcode, and its reserved field is zero (R82, R83). -/
def Statement (i : Instr) : Prop := (encode i).op = opcode i ∧ (encode i).rsv = 0

theorem init (f : BitVec 32) : Statement (.init f) := ⟨op_make _ _ _, rsv_make _ _ _⟩
theorem setFrequency (ch : BitVec 8) (q : BitVec 48) : Statement (.setFrequency ch q) :=
  ⟨op_make _ _ _, rsv_make _ _ _⟩
theorem setFrequencyWord (ch : BitVec 8) (raw : BitVec 48) : Statement (.setFrequencyWord ch raw) :=
  ⟨op_make _ _ _, rsv_make _ _ _⟩
theorem setPhaseWord (ch : BitVec 8) (w : BitVec 12) : Statement (.setPhaseWord ch w) :=
  ⟨op_make _ _ _, rsv_make _ _ _⟩
theorem setSignOutput (c : SignCode) : Statement (.setSignOutput c) := ⟨op_make _ _ _, rsv_make _ _ _⟩
theorem setOutputMode (m : ModeCode) : Statement (.setOutputMode m) := ⟨op_make _ _ _, rsv_make _ _ _⟩
theorem setSleep (z : SleepCode) : Statement (.setSleep z) := ⟨op_make _ _ _, rsv_make _ _ _⟩
theorem setOutputWave (k : BitVec 8) : Statement (.setOutputWave k) := ⟨op_make _ _ _, rsv_make _ _ _⟩
theorem reset : Statement .reset := ⟨op_make _ _ _, rsv_make _ _ _⟩

end EncodesItsOpcode

end Sys2Proof.Laws
end

