-- ==== Sys2Proof/Laws/Run.lean ====
section
/-! SUPPORT. One step for each action at the head of the plan, and how steps chain into a run of Host.Core: a run of many
steps is proved by chaining `run_next` over these, not by unfolding the step. -/

namespace Sys2Proof.Machine

/-- A run of one step more. -/
theorem run_next (k : Nat) (s t : State) (h : step s = .next t) :
    Host.Core.run Sys2Proof.core (k + 1) s = Host.Core.run Sys2Proof.core k t := by
  have h' : Sys2Proof.core.step s = .next t := h
  simp only [Host.Core.run, h']

/-- A run of no step. -/
theorem run_nil (s : State) : Host.Core.run Sys2Proof.core 0 s = .next s := rfl

/-- Two runs chain. -/
theorem run_append (j k : Nat) (s t : State) (h : Host.Core.run Sys2Proof.core j s = .next t) :
    Host.Core.run Sys2Proof.core (j + k) s = Host.Core.run Sys2Proof.core k t := by
  induction j generalizing s with
  | zero =>
    cases h
    rw [Nat.zero_add]
  | succ j ih =>
    rw [Nat.add_right_comm]
    cases hs : step s with
    | next s' =>
      rw [run_next _ _ _ hs] at h ⊢
      exact ih s' h
    | fault r =>
      have h' : Sys2Proof.core.step s = .fault r := hs
      simp only [Host.Core.run, h'] at h
      cases h
    | refused r =>
      have h' : Sys2Proof.core.step s = .refused r := hs
      simp only [Host.Core.run, h'] at h
      cases h

theorem step_setSel (s : State) (l : Bool) (rest : List Action) (h : s.plan = .setSel l :: rest) :
    step s = .next (s.performSetSel l rest) := by
  simp [step, microStep, h, perform]

theorem step_setRst (s : State) (l : Bool) (rest : List Action) (h : s.plan = .setRst l :: rest) :
    step s = .next (s.performSetRst l rest) := by
  simp [step, microStep, h, perform]

theorem step_hold (s : State) (rest : List Action) (h : s.plan = .hold :: rest) :
    step s = .next (s.performHold rest) := by
  simp [step, microStep, h, perform]

theorem step_commit (s : State) (c : Commit) (rest : List Action) (h : s.plan = .commit c :: rest) :
    step s = .next (s.performCommit c rest) := by
  simp [step, microStep, h, perform]

theorem step_xfer_ok (s : State) (w : Word16) (rest : List Action) (h : s.plan = .xfer w :: rest)
    (hr : s.nextReply = some .ok) : step s = .next ((s.handOver w).takeReply.answeredOk w rest) := by
  simp [step, microStep, h, perform, State.performXfer, hr]

theorem step_xfer_err (s : State) (w : Word16) (rest : List Action) (e : TErr) (h : s.plan = .xfer w :: rest)
    (hr : s.nextReply = some (.err e)) : step s = .next ((s.handOver w).takeReply.answeredErr e rest) := by
  simp [step, microStep, h, perform, State.performXfer, hr]

/-- The state after a transfer answered `Ok` from the list, in an otherwise quiet block. -/
theorem answeredOk_of_cons (s : State) (w : Word16) (rest : List Action) (as : List (Option Reply))
    (ha : s.answers = some .ok :: as) (hw : s.awaiting = false) :
    (s.handOver w).takeReply.answeredOk w rest = { s with
      plan := rest
      answers := as
      log := s.log ++ [.event (.xfer w), .answer .ok]
      receiver := (s.receiver.consume s.params s.deviceDraws w).clockRuns s.deviceDraws
      deviceDraws := s.deviceDraws + 1 } := by
  simp [State.handOver, State.takeReply, State.answeredOk, State.deviceTakes, ha, hw]

/-- The state after a transfer answered `Err(e)` from the list, in an otherwise quiet block. -/
theorem answeredErr_of_cons (s : State) (w : Word16) (rest : List Action) (e : TErr) (as : List (Option Reply))
    (ha : s.answers = some (.err e) :: as) (hw : s.awaiting = false) :
    (s.handOver w).takeReply.answeredErr e rest = { s with
      plan := abortPlan s.params rest e
      answers := as
      log := s.log ++ [.event (.xfer w), .answer (.err e)]
      receiver := Receiver.anyValue s.params s.deviceDraws
      deviceDraws := s.deviceDraws + 1 } := by
  simp [State.handOver, State.takeReply, State.answeredErr, State.deviceUnknown, ha, hw]

end Sys2Proof.Machine
end

