-- ==== Sys2Proof/Tests/Slice0.lean ====
section
/-! SUPPORT. The model's own tests. Expected values come from spec/95_test_vectors.md and the worked examples of the
rules; each test names its source. The last part shows, for each statement with hypotheses, a concrete state and operands
that meet them. -/

namespace Sys2Proof.Tests

open Sys2Proof Sys2Proof.Machine

/-! ### WellFormed: each check refuses an ill-formed term -/

/-- Parameters whose variable widths are all below their maximum. -/
def narrow : Params :=
  { Params.default with phaseW := 10, freqInW := 40, refclkW := 24 }

def lay : CtrlLayout := CtrlLayout.ad983x

theorem test_default_params_ok : Params.default.Ok := by decide
theorem test_narrow_params_ok : narrow.Ok := by decide
theorem test_init_too_wide_refused : (Instr.init 0x1000000).wf narrow = false := by decide
theorem test_frequency_not_extended_refused : (Instr.setFrequency 0 0x8000000000).wf narrow = false := by decide
theorem test_frequency_extended_accepted : (Instr.setFrequency 0 0xFF8000000000).wf narrow = true := by decide
theorem test_phase_too_wide_refused : (Instr.setPhaseWord 0 0x400).wf narrow = false := by decide
theorem test_phase_width_13_refused : ¬ ({ Params.default with phaseW := 13 } : Params).Ok := by decide
theorem test_freq_frac_29_refused : ¬ ({ Params.default with freqFrac := 29 } : Params).Ok := by decide
theorem test_freq_width_0_refused : ¬ ({ Params.default with freqInW := 0 } : Params).Ok := by decide
theorem test_freq_width_49_refused : ¬ ({ Params.default with freqInW := 49 } : Params).Ok := by decide
theorem test_refclk_width_33_refused : ¬ ({ Params.default with refclkW := 33 } : Params).Ok := by decide
theorem test_init_word_tag_refused : ¬ ({ Params.default with initControlWord := 0x4100 } : Params).Ok := by decide
theorem test_init_word_b28_refused : ¬ ({ Params.default with initControlWord := 0x2100 } : Params).Ok := by decide
theorem test_overlapping_masks_refused : ¬ ({ lay with signMask := 0x003A } : CtrlLayout).MasksDisjoint := by decide
theorem test_value_outside_mask_refused : ¬ ({ lay with signMsb := 0x002A } : CtrlLayout).ValuesWithin := by decide
theorem test_equal_tags_refused : ¬ ({ lay with tagFreq1 := 0x4000 } : CtrlLayout).TagsDistinct := by decide
theorem test_tag_in_payload_refused : ¬ ({ lay with tagFreq0 := 0x4001 } : CtrlLayout).PayloadsFree 12 := by decide
theorem test_phase_tag_in_payload_refused : ¬ ({ lay with tagPhase1 := 0xC800 } : CtrlLayout).PayloadsFree 12 := by decide
theorem test_absent_b28_refused : ¬ ({ lay with b28 := 0 } : CtrlLayout).BitsPresent := by decide
theorem test_one_phase_tag_refused : ¬ ({ lay with tagPhase1 := 0xC000 } : CtrlLayout).BitsPresent := by decide

/-! ### Decode: words written out from R82, R83 (values of 95_test_vectors.md) -/

theorem test_decode_init : decodeTableWord 64 0x10000000017D7840 = some (.init 25000000) := by decide
theorem test_decode_set_frequency :
    decodeTableWord 64 0x2020FFFFFFFFFFFF = some (.setFrequency 2 0xFFFFFFFFFFFF) := by decide
theorem test_decode_set_frequency_word :
    decodeTableWord 64 0x3010000000ABCDEF = some (.setFrequencyWord 1 0xABCDEF) := by decide
theorem test_decode_set_phase_word : decodeTableWord 64 0x4010000000000800 = some (.setPhaseWord 1 0x800) := by decide
theorem test_decode_sign_none : decodeTableWord 64 0x5000000000000000 = some (.setSignOutput .off) := by decide
theorem test_decode_sign_msb : decodeTableWord 64 0x5010000000000000 = some (.setSignOutput .msb) := by decide
theorem test_decode_sign_msb2 : decodeTableWord 64 0x5020000000000000 = some (.setSignOutput .msb2) := by decide
theorem test_decode_sign_comparator :
    decodeTableWord 64 0x5030000000000000 = some (.setSignOutput .comparator) := by decide
theorem test_decode_mode_sine : decodeTableWord 64 0x6000000000000000 = some (.setOutputMode .sine) := by decide
theorem test_decode_mode_triangle : decodeTableWord 64 0x6010000000000000 = some (.setOutputMode .triangle) := by decide
theorem test_decode_sleep_mclk : decodeTableWord 64 0x7010000000000000 = some (.setSleep .mclk) := by decide
theorem test_decode_sleep_dac : decodeTableWord 64 0x7020000000000000 = some (.setSleep .dac) := by decide
theorem test_decode_sleep_all : decodeTableWord 64 0x7030000000000000 = some (.setSleep .all) := by decide
theorem test_decode_wave : decodeTableWord 64 0x8FF0000000000000 = some (.setOutputWave 255) := by decide
theorem test_decode_reset : decodeTableWord 64 0x9000000000000000 = some .reset := by decide

/-- V23: each of these words spells no command, and says why. -/
theorem test_decode_refused_by_name :
    decode Params.default 0x0000000000000000 = .error .reservedOpcode ∧
    decode Params.default 0xA000000000000000 = .error .reservedOpcode ∧
    decode Params.default 0xFFFFFFFFFFFFFFFF = .error .reservedOpcode ∧
    decode Params.default 0x5040000000000000 = .error .mustBeZero ∧
    decode Params.default 0x6020000000000000 = .error .mustBeZero ∧
    decode Params.default 0x7000000000000001 = .error .mustBeZero ∧
    decode Params.default 0x4000000000001000 = .error .mustBeZero ∧
    decode Params.default 0x9000000000000001 = .error .mustBeZero ∧
    decode Params.default 0x1010000001000000 = .error .mustBeZero ∧
    decode Params.default 0x1000000100000000 = .error .mustBeZero ∧
    decode Params.default 0x2001000000000000 = .error .mustBeZero ∧
    decode narrow 0x2000008000000000 = .error .notSignExtended := by decide

/-- The encoder writes the words of R130, R154, R158, R185, R194, R199, R204, R210. -/
theorem test_encode :
    encode (.init 25000000) = 0x10000000017D7840 ∧ encode (.setFrequency 0 0x3E80000) = 0x2000000003E80000 ∧
    encode (.setFrequencyWord 1 0xABCDEF) = 0x3010000000ABCDEF ∧ encode (.setPhaseWord 1 0x800) = 0x4010000000000800 ∧
    encode (.setSignOutput .comparator) = 0x5030000000000000 ∧ encode (.setOutputMode .triangle) = 0x6010000000000000 ∧
    encode (.setSleep .dac) = 0x7020000000000000 ∧ encode (.setOutputWave 2) = 0x8020000000000000 ∧
    encode .reset = 0x9000000000000000 := by decide

/-- The table of spec/opcode_table.json under the default parameters: match and mask, row by row. -/
theorem test_opcode_table :
    (List.range 16).filterMap (fun n => (opcodeRow Params.default (BitVec.ofNat 4 n)).map fun r => (r.mtch.toNat, r.mask.toNat)) =
      [(0x1000000000000000, 0xFFFFFFFF00000000), (0x2000000000000000, 0xF00F000000000000),
       (0x3000000000000000, 0xF00F000000000000), (0x4000000000000000, 0xF00FFFFFFFFFF000),
       (0x5000000000000000, 0xFFCFFFFFFFFFFFFF), (0x6000000000000000, 0xFFEFFFFFFFFFFFFF),
       (0x7000000000000000, 0xFFCFFFFFFFFFFFFF), (0x8000000000000000, 0xF00FFFFFFFFFFFFF),
       (0x9000000000000000, 0xFFFFFFFFFFFFFFFF)] := by decide

/-! ### Commands: traces and results of 95_test_vectors.md -/

/-- The state `S0` of 95_test_vectors.md: after `init 25000000`, and `as` the answers to come. -/
def s0 (as : List (Option Reply)) : State :=
  { State.reset with
    inited := true
    refHz := some 25000000
    shadow := some 0x0100
    receiver := { Receiver.atPowerOn with ctrl := 0x0100 }
    answers := as }

/-- The state after a run, if it goes on. -/
def nextOf (o : Host.Outcome State Fault Refusal) : Option State :=
  match o with
  | .next s => some s
  | .fault _ => none
  | .refused _ => none

/-- The state after `k` steps from `s`. -/
def runState (k : Nat) (s : State) : Option State := nextOf (Host.Core.run Sys2Proof.core k s)

/-- The words sent, the results given and the shadow left by the command word `w` presented in `s`, after `k` steps. -/
def runWord (s : State) (w : CmdWord) (k : Nat) : Option (List Word16 × List Result × Option Word16 × Bool) :=
  (runState k (s.present w)).map fun t =>
    (t.trace.filterMap (fun e => match e with
      | .xfer x => some x
      | .setSel _ => none
      | .setRst _ => none
      | .hold => none), t.results, t.shadow, t.desync)

/-- A payload of the transport's errors. -/
def payload : TErr := ⟨0, rfl⟩

def ok (n : Nat) : List (Option Reply) := List.replicate n (some .ok)

/-- Power-on with one transfer to be answered `Ok`, and `init 25000000` presented. -/
def presentedInit : State := ({ State.reset with answers := ok 1 } : State).present 0x10000000017D7840

/-- R130 and V21, from power-on: the events and the result. -/
theorem test_init_events :
    (runState 8 presentedInit).map (fun t => (t.trace, t.results)) =
    some ([.setRst true, .hold, .setRst false, .setSel false, .xfer 0x0100, .setSel true], [.ok]) := by decide

/-- R130 and V21, from power-on: the registers. -/
theorem test_init_registers :
    (runState 8 presentedInit).map (fun t => (t.refHz, t.shadow, t.inited, t.desync)) =
    some (some 25000000, some 0x0100, true, false) := by decide

/-- V21, last row: a failed INIT. -/
theorem test_init_failed :
    (runState 8 ((s0 [some (.err payload)]).present 0x10000000017D7840)).map
      (fun t => (t.results, t.refHz, t.shadow, t.inited, t.desync)) =
    some ([.transportError payload], none, none, false, false) := by decide

/-- V2 and R154. -/
theorem test_set_frequency :
    runWord (s0 (ok 4)) 0x2000000003E80000 14 =
      some ([0x2100, 0x69F1, 0x4000, 0x0100], [.ok], some 0x0100, false) := by decide

/-- V14: both errors apply, and the channel is checked first. -/
theorem test_set_frequency_channel_first :
    runWord (s0 []) 0x2020FFFFFFFFFFFF 1 = some ([], [.invalidChannel], some 0x0100, false) := by decide

/-- R158. -/
theorem test_set_frequency_word :
    runWord (s0 (ok 4)) 0x3010000000ABCDEF 14 =
      some ([0x2100, 0x8DEF, 0x82AF, 0x0100], [.ok], some 0x0100, false) := by decide

/-- V26: `setfreq 0, 1000` with its second transfer failing, here as the word write. -/
theorem test_set_frequency_word_failed :
    runWord (s0 [some .ok, some (.err payload)]) 0x30000000000029F1 8 =
      some ([0x2100, 0x69F1], [.transportError payload], some 0x0100, true) := by decide

/-- R185 and V16. -/
theorem test_set_phase_word :
    runWord (s0 (ok 1)) 0x4010000000000800 5 = some ([0xE800], [.ok], some 0x0100, false) := by decide

/-- V17: from 0x01FA, `setsign none` clears only bits 5:3. -/
theorem test_set_sign_output :
    runWord { s0 (ok 1) with shadow := some 0x01FA } 0x5000000000000000 5 =
      some ([0x01C2], [.ok], some 0x01C2, false) := by decide

/-- R228 and V26: the failed setter keeps the new shadow. -/
theorem test_set_sign_output_failed :
    runWord (s0 [some (.err payload)]) 0x5030000000000000 5 =
      some ([0x0138], [.transportError payload], some 0x0138, true) := by decide

/-- R199. -/
theorem test_set_output_mode :
    runWord { s0 (ok 1) with shadow := some 0x0128 } 0x6010000000000000 5 =
      some ([0x012A], [.ok], some 0x012A, false) := by decide

/-- R204. -/
theorem test_set_sleep :
    runWord { s0 (ok 1) with shadow := some 0x01C0 } 0x7020000000000000 5 =
      some ([0x0140], [.ok], some 0x0140, false) := by decide

/-- R210. -/
theorem test_set_output_wave :
    runWord { s0 (ok 1) with shadow := some 0x012A } 0x8020000000000000 5 =
      some ([0x0138], [.ok], some 0x0138, false) := by decide

/-- R210, second part. -/
theorem test_set_output_wave_bad_shape :
    runWord { s0 [] with shadow := some 0x0138 } 0x8030000000000000 1 =
      some ([], [.invalidWaveShape], some 0x0138, false) := by decide

/-- R223 and V22. -/
theorem test_reset_command :
    (runState 5 ((s0 []).present 0x9000000000000000)).map (fun t => (t.trace, t.results, t.shadow)) =
      some ([.setRst true, .hold, .setRst false], [.ok], some 0x0100) := by decide

/-- V24: power-on, a reserved opcode is illegal before it is uninitialised. -/
theorem test_illegal_checked_first :
    runWord State.reset 0xA000000000000000 1 = some ([], [.illegalCommand], none, false) := by decide

/-- V24: power-on, a bad channel is uninitialised first. -/
theorem test_not_initialised_checked_second :
    runWord State.reset 0x2020000000640000 1 = some ([], [.notInitialised], none, false) := by decide

/-- V24: a desynchronised block refuses before it looks at the shape. -/
theorem test_desync_checked_third :
    runWord { s0 [] with desync := true } 0x8030000000000000 1 =
      some ([], [.deviceStateUnknown], some 0x0100, true) := by decide

/-- V10 and V11: the scaler's rows, ties and the refused band. -/
theorem test_scaler :
    scaleHz 16 0x3E80000 25000000 = 10737 ∧ scaleHz 16 0x10000 25000000 = 11 ∧ scaleHz 16 0x8000 25000000 = 5 ∧
    scaleHz 16 0x17D783FF414 25000000 = 0xFFFFFFF ∧ scaleHz 16 0x17D783FF415 25000000 = 2 ^ 28 ∧
    scaleHz 16 2047 16777216 = 0 ∧ scaleHz 16 2048 16777216 = 1 ∧ scaleHz 16 6143 16777216 = 1 ∧
    scaleHz 16 6144 16777216 = 2 := by decide

/-- The big step of R291 on V2. -/
theorem test_big_step :
    (runCommand (s0 []) 0x2000000003E80000 (ok 4)).map (fun b => (b.result, b.events.length, b.left)) =
      some (.ok, 12, []) := by decide

/-- V27: in two-write mode the halves 0x69F1 and 0x4000 load FREQ0 with 0x29F1. -/
theorem test_receiver_pair :
    ((({ Receiver.atPowerOn with ctrl := 0x2100 } : Receiver).consume Params.default 0 0x69F1).pend,
      (({ Receiver.atPowerOn with ctrl := 0x2100 } : Receiver).consume Params.default 0 0x69F1).consume
        Params.default 1 0x4000) =
      (some (.ch0, 0x29F1), { Receiver.atPowerOn with ctrl := 0x2100, freq0 := 0x29F1 }) := by decide

/-- R63, third arm: a half for the other channel ends the pair. -/
theorem test_receiver_mixed_pair :
    (({ Receiver.atPowerOn with ctrl := 0x2100, pend := some (.ch0, 0x29F1) } : Receiver).consume Params.default 0
      0x8000).pend = none := by decide

/-- R64: with `B28` clear, `HLB` chooses the half of FREQ1. -/
theorem test_receiver_single_half :
    (({ Receiver.atPowerOn with ctrl := 0x1100, freq1 := 0x0004001 } : Receiver).consume Params.default 0 0x8002).freq1 =
      0x0008001 ∧
    (({ Receiver.atPowerOn with ctrl := 0x0100, freq1 := 0x0004001 } : Receiver).consume Params.default 0 0x8002).freq1 =
      0x0004002 := by decide

/-- R66: RESET returns the accumulator to zero and leaves FREQ0. -/
theorem test_receiver_pulse :
    (runState 5 (({ s0 [] with
        receiver := { Receiver.atPowerOn with acc := 0x123, freq0 := 0x456 } } : State).present 0x9000000000000000)).map
      (fun t => (t.receiver.acc, t.receiver.freq0)) = some (0, 0x456) := by decide

/-- V26, last row: a transfer never answered leaves the block stuck with the select line asserted. -/
theorem test_silent_transport :
    (runState 3 ((s0 [none]).present 0x5030000000000000)).map
      (fun t => (t.awaiting, t.selOut, t.trace.length)) = some (true, false, 2) ∧
    runState 4 ((s0 [none]).present 0x5030000000000000) = none := by decide

/-- The assembler on R154, R105 and V14; a frequency that needs rounding is refused (R105). -/
theorem test_assembler :
    assembleText Params.default "setfreq 0, 1000".toList = some 0x2000000003E80000 ∧
    assembleText Params.default "setfreq 2, -0.0000152587890625".toList = some 0x2020FFFFFFFFFFFF ∧
    assembleText Params.default "setfreq 0, 0.1".toList = none ∧
    assembleText Params.default "setphase 1, 0x800".toList = some 0x4010000000000800 ∧
    assembleText Params.default "setwave square".toList = some 0x8020000000000000 ∧
    assembleText Params.default "reset".toList = some 0x9000000000000000 := by decide

/-! ### Witnesses: for each statement with hypotheses, a state and operands that meet them together -/

theorem shadow_0x0100_tag : tagBits (0x0100 : Word16) = 0 := by decide

theorem shadow_0x0100_b28 : (0x0100 : Word16) &&& lay.b28 = 0 := by decide

/-- An initialised block under the default parameters, with the registers of `S0`, meets R30 and R32. -/
theorem registers_ok (s : State) (hp : s.params = Params.default) (hs : s.shadow = some 0x0100)
    (hr : s.refHz = some 25000000) : s.params.Ok ∧ s.ShadowOk ∧ s.ClockOk := by
  refine ⟨hp ▸ test_default_params_ok, fun _ => ⟨0x0100, hs, shadow_0x0100_tag, ?_, ?_⟩, fun _ => ⟨_, hr, by decide⟩⟩
  · rw [hp]; exact shadow_0x0100_b28
  · rw [hp]; rfl

/-- Such a block with the rest of the invariant given piece by piece. -/
theorem inv_of (s : State) (hp : s.params = Params.default) (hs : s.shadow = some 0x0100)
    (hr : s.refHz = some 25000000) (hi : s.inited = true) (plan : s.PlanOk) (aw : s.AwaitingOk) : s.Inv :=
  have h := registers_ok s hp hs hr
  ⟨h.1, h.2.1, h.2.2, plan, aw, fun _ => hi, fun _ _ => hi⟩

/-- `S0` meets the invariant. -/
theorem s0_inv (as : List (Option Reply)) : (s0 as).Inv :=
  inv_of _ rfl rfl rfl rfl ⟨fun _ => ⟨rfl, rfl⟩, fun h => absurd rfl h⟩ (fun h => nomatch h)

/-- `S0` before its last action, a commit. -/
def committing : State := { s0 [] with plan := [.commit .ok] }

theorem committing_inv : committing.Inv :=
  inv_of _ rfl rfl rfl rfl ⟨(fun h => nomatch h), fun _ => rfl⟩ (fun h => nomatch h)

/-- `S0` in the transfer of a one-word plan, its select line asserted. -/
def sending (as : List (Option Reply)) : State :=
  { s0 as with selOut := false, plan := [.xfer 0x0128, .setSel true, .commit .ok] }

theorem sending_inv (as : List (Option Reply)) : (sending as).Inv :=
  inv_of _ rfl rfl rfl rfl ⟨(fun h => nomatch h), fun _ => rfl⟩ (fun h => nomatch h)

/-- A block that waits for an answer that never comes. -/
def stuck : State := { sending [none] with awaiting := true }

theorem stuck_inv : stuck.Inv :=
  inv_of _ rfl rfl rfl rfl ⟨(fun h => nomatch h), fun _ => rfl⟩ (fun _ => ⟨_, _, rfl⟩)

theorem witness_DecodeEncodeRoundTrip : narrow.Ok ∧ (Instr.setPhaseWord 1 0x3FF).wf narrow = true := by decide

theorem witness_EncodeDecodeRoundTrip :
    narrow.Ok ∧ decode narrow 0x2000FF8000000000 = .ok (.setFrequency 0 0xFF8000000000) := by decide

theorem witness_WellFormedWordIsMaskMatch : ∃ s : State, s.params.Ok ∧ s.plan = [] ∧
    s.port = [0x4000000000001000] ∧ ∀ i, decode s.params 0x4000000000001000 ≠ .ok i :=
  have h : decode Params.default 0x4000000000001000 = .error .mustBeZero := by decide
  ⟨(s0 []).present 0x4000000000001000, by decide, rfl, rfl, fun _ hi => nomatch h.symm.trans hi⟩

theorem witness_ReservedOpcodeRefused_low : ∃ s : State, s.plan = [] ∧ s.port = [0x0FFFFFFFFFFFFFFF] ∧
    (0x0FFFFFFFFFFFFFFF : CmdWord).extractLsb' 60 4 = 0 :=
  ⟨(s0 []).present 0x0FFFFFFFFFFFFFFF, rfl, rfl, by decide⟩

theorem witness_ReservedOpcodeRefused_high : ∃ s : State, s.plan = [] ∧ s.port = [0xA000000000000000] ∧
    0xA ≤ ((0xA000000000000000 : CmdWord).extractLsb' 60 4).toNat :=
  ⟨(s0 []).present 0xA000000000000000, rfl, rfl, by decide⟩

theorem witness_ReservedOpcodeRefused_last : ∃ s : State, s.plan = [] ∧ s.port = [0xFFFFFFFFFFFFFFFF] ∧
    0xA ≤ ((0xFFFFFFFFFFFFFFFF : CmdWord).extractLsb' 60 4).toNat :=
  ⟨(s0 []).present 0xFFFFFFFFFFFFFFFF, rfl, rfl, by decide⟩

theorem witness_MustBeZeroBitRefused : ∃ s : State, s.plan = [] ∧ s.port = [0x9000000000000001] ∧ s.params.Ok ∧
    1 ≤ (CmdWord.op 0x9000000000000001).toNat ∧ (CmdWord.op 0x9000000000000001).toNat ≤ 9 ∧
    fieldsZero s.params 0x9000000000000001 = false :=
  ⟨(s0 []).present 0x9000000000000001, rfl, rfl, by decide, by decide, by decide, by decide⟩

theorem witness_StepRunsDecodedCommand : ∃ s : State, s.plan = [] ∧ s.port = [0x9000000000000000] ∧
    decode s.params 0x9000000000000000 = .ok .reset :=
  ⟨(s0 []).present 0x9000000000000000, rfl, rfl, by decide⟩

theorem witness_StepRunsDecodedCommand_idle : (s0 []).plan = [] ∧ (s0 []).port = [] := ⟨rfl, rfl⟩

theorem witness_busy_step : ∃ s t : State, s.Inv ∧ s.ResultsCounted ∧ s.plan ≠ [] ∧ step s = .next t ∧
    t.results ≠ s.results :=
  ⟨{ committing with log := [.command 0x9000000000000000] }, _,
    inv_of _ rfl rfl rfl rfl ⟨(fun h => nomatch h), fun _ => rfl⟩ (fun h => nomatch h), rfl, by decide, rfl, by decide⟩

theorem witness_accepting_step : ∃ s t : State, s.plan = [] ∧ s.port ≠ [] ∧ step s = .next t :=
  ⟨(s0 []).present 0x9000000000000000, _, rfl, by decide, rfl⟩

theorem witness_waiting_step : step State.reset = .next State.reset := rfl

theorem witness_BlockNeverReadsReceiver_fault : step stuck = .fault .transportSilent := rfl

theorem witness_NotInitialisedRefused : (∀ f, Instr.reset ≠ .init f) ∧ State.reset.inited = false :=
  ⟨fun _ => nofun, rfl⟩

theorem witness_DeviceStateUnknownRefused : ∃ s : State, (∀ f, Instr.reset ≠ .init f) ∧ s.inited = true ∧
    s.desync = true :=
  ⟨{ s0 [] with desync := true }, fun _ => nofun, rfl, rfl⟩

theorem witness_BadChannelRefused : (s0 []).inited = true ∧ (s0 []).desync = false ∧ 2 ≤ (2 : BitVec 8).toNat := by
  decide

theorem witness_BadShapeRefused : (s0 []).inited = true ∧ (s0 []).desync = false ∧ 3 ≤ (3 : BitVec 8).toNat := by
  decide

/-- Boundary values: `q = -1`; the smallest `q` refused at 25 MHz (V10); the smallest raw word refused (R157). -/
theorem witness_FrequencyOutOfRangeRefused :
    ((s0 []).inited = true ∧ (s0 []).desync = false ∧ (1 : BitVec 8).toNat < 2) ∧
    (0xFFFFFFFFFFFF : BitVec 48).toInt < 0 ∧
    (0 ≤ (0x17D783FF415 : BitVec 48).toInt ∧ (s0 []).refHz = some 25000000 ∧
      2 ^ 28 ≤ ((0x17D783FF415 : BitVec 48).toInt.toNat * 2 ^ (29 - (s0 []).params.freqFrac) +
        (25000000 : BitVec 32).toNat) / (2 * (25000000 : BitVec 32).toNat)) ∧
    (0x10000000 : BitVec 48).extractLsb' 28 20 ≠ 0 := by decide

theorem witness_RefusalsArePrecise : ∃ s t : State, s.plan = [] ∧ step s = .next t ∧ t.results ≠ s.results :=
  ⟨(s0 []).present 0x1000000000000000, _, rfl, rfl, by decide⟩

theorem witness_InitCompletes : (s0 (ok 1)).awaiting = false ∧ (1 : BitVec 32) ≠ 0 ∧
    (s0 (ok 1)).answers = some .ok :: [] := by decide

theorem witness_InitFails : (s0 [some (.err payload)]).awaiting = false ∧ (0xFFFFFFFF : BitVec 32) ≠ 0 ∧
    (s0 [some (.err payload)]).answers = some (.err payload) :: [] := by decide

/-- The smallest `q` and channel. -/
theorem witness_SetFrequencyCompletes_low :
    ((s0 (ok 4)).awaiting = false ∧ (s0 (ok 4)).inited = true ∧ (s0 (ok 4)).desync = false) ∧
    ((0 : BitVec 8) = 0 ∧ Channel.ch0 = .ch0) ∧ 0 ≤ (0 : BitVec 48).toInt ∧
    (s0 (ok 4)).refHz = some 25000000 ∧ (s0 (ok 4)).shadow = some 0x0100 ∧
    ((0 : BitVec 48).toInt.toNat * 2 ^ (29 - (s0 (ok 4)).params.freqFrac) +
      (25000000 : BitVec 32).toNat) / (2 * (25000000 : BitVec 32).toNat) < 2 ^ 28 ∧
    (s0 (ok 4)).answers = [some .ok, some .ok, some .ok, some .ok] ++ [] := by decide

/-- The largest `q` accepted at 25 MHz (V10), on channel 1. -/
theorem witness_SetFrequencyCompletes :
    ((s0 (ok 4)).awaiting = false ∧ (s0 (ok 4)).inited = true ∧ (s0 (ok 4)).desync = false) ∧
    ((1 : BitVec 8) = 1 ∧ Channel.ch1 = .ch1) ∧ 0 ≤ (0x17D783FF414 : BitVec 48).toInt ∧
    (s0 (ok 4)).refHz = some 25000000 ∧ (s0 (ok 4)).shadow = some 0x0100 ∧
    ((0x17D783FF414 : BitVec 48).toInt.toNat * 2 ^ (29 - (s0 (ok 4)).params.freqFrac) +
      (25000000 : BitVec 32).toNat) / (2 * (25000000 : BitVec 32).toNat) < 2 ^ 28 ∧
    (s0 (ok 4)).answers = [some .ok, some .ok, some .ok, some .ok] ++ [] := by decide

theorem witness_SetFrequencyWordCompletes :
    ((s0 (ok 4)).awaiting = false ∧ (s0 (ok 4)).inited = true ∧ (s0 (ok 4)).desync = false) ∧
    ((0 : BitVec 8) = 0 ∧ Channel.ch0 = .ch0) ∧ (0x0FFFFFFF : BitVec 48).extractLsb' 28 20 = 0 ∧
    (s0 (ok 4)).shadow = some 0x0100 ∧
    (s0 (ok 4)).answers = [some .ok, some .ok, some .ok, some .ok] ++ [] := by decide

theorem witness_SetFrequencyWordCompletes_ch1 :
    ((s0 (ok 4)).awaiting = false ∧ (s0 (ok 4)).inited = true ∧ (s0 (ok 4)).desync = false) ∧
    ((1 : BitVec 8) = 1 ∧ Channel.ch1 = .ch1) ∧ (0 : BitVec 48).extractLsb' 28 20 = 0 ∧
    (s0 (ok 4)).shadow = some 0x0100 ∧
    (s0 (ok 4)).answers = [some .ok, some .ok, some .ok, some .ok] ++ [] := by decide

theorem witness_SetPhaseWordCompletes_ch0 :
    ((s0 (ok 1)).awaiting = false ∧ (s0 (ok 1)).inited = true ∧ (s0 (ok 1)).desync = false) ∧
    ((0 : BitVec 8) = 0 ∧ Channel.ch0 = .ch0) ∧ (s0 (ok 1)).answers = some .ok :: [] := by decide

theorem witness_SetPhaseWordCompletes :
    ((s0 (ok 1)).awaiting = false ∧ (s0 (ok 1)).inited = true ∧ (s0 (ok 1)).desync = false) ∧
    ((1 : BitVec 8) = 1 ∧ Channel.ch1 = .ch1) ∧ (s0 (ok 1)).answers = some .ok :: [] := by decide

theorem witness_FieldSettersComplete :
    ((s0 (ok 1)).awaiting = false ∧ (s0 (ok 1)).inited = true ∧ (s0 (ok 1)).desync = false) ∧
    (s0 (ok 1)).shadow = some 0x0100 ∧ (s0 (ok 1)).answers = some .ok :: [] ∧
    (∃ c, Instr.setSignOutput .msb = .setSignOutput c ∧ lay.signMask = (s0 (ok 1)).params.layout.signMask ∧
      signVal lay .msb = signVal (s0 (ok 1)).params.layout c) :=
  ⟨⟨rfl, rfl, rfl⟩, rfl, rfl, .msb, rfl, rfl, rfl⟩

theorem witness_FieldSettersComplete_mode :
    ((s0 (ok 1)).awaiting = false ∧ (s0 (ok 1)).inited = true ∧ (s0 (ok 1)).desync = false) ∧
    (s0 (ok 1)).shadow = some 0x0100 ∧ (s0 (ok 1)).answers = some .ok :: [] ∧
    (∃ m, Instr.setOutputMode .triangle = .setOutputMode m ∧ lay.modeMask = (s0 (ok 1)).params.layout.modeMask ∧
      modeVal lay .triangle = modeVal (s0 (ok 1)).params.layout m) :=
  ⟨⟨rfl, rfl, rfl⟩, rfl, rfl, .triangle, rfl, rfl, rfl⟩

theorem witness_FieldSettersComplete_sleep :
    ((s0 (ok 1)).awaiting = false ∧ (s0 (ok 1)).inited = true ∧ (s0 (ok 1)).desync = false) ∧
    (s0 (ok 1)).shadow = some 0x0100 ∧ (s0 (ok 1)).answers = some .ok :: [] ∧
    (∃ z, Instr.setSleep .all = .setSleep z ∧ lay.sleepMask = (s0 (ok 1)).params.layout.sleepMask ∧
      sleepVal lay .all = sleepVal (s0 (ok 1)).params.layout z) :=
  ⟨⟨rfl, rfl, rfl⟩, rfl, rfl, .all, rfl, rfl, rfl⟩

theorem witness_SetOutputWaveCompletes_sine :
    ((s0 (ok 1)).awaiting = false ∧ (s0 (ok 1)).inited = true ∧ (s0 (ok 1)).desync = false) ∧
    (s0 (ok 1)).shadow = some 0x0100 ∧ (s0 (ok 1)).answers = some .ok :: [] ∧
    ((0 : BitVec 8) = 0 ∧ SignCode.off = .off ∧ ModeCode.sine = .sine) := by decide

theorem witness_SetOutputWaveCompletes_triangle :
    ((s0 (ok 1)).awaiting = false ∧ (s0 (ok 1)).inited = true ∧ (s0 (ok 1)).desync = false) ∧
    (s0 (ok 1)).shadow = some 0x0100 ∧ (s0 (ok 1)).answers = some .ok :: [] ∧
    ((1 : BitVec 8) = 1 ∧ SignCode.off = .off ∧ ModeCode.triangle = .triangle) := by decide

theorem witness_SetOutputWaveCompletes :
    ((s0 (ok 1)).awaiting = false ∧ (s0 (ok 1)).inited = true ∧ (s0 (ok 1)).desync = false) ∧
    (s0 (ok 1)).shadow = some 0x0100 ∧ (s0 (ok 1)).answers = some .ok :: [] ∧
    ((2 : BitVec 8) = 2 ∧ SignCode.comparator = .comparator ∧ ModeCode.sine = .sine) := by decide

theorem witness_ResetCompletes :
    (s0 []).awaiting = false ∧ (s0 []).inited = true ∧ (s0 []).desync = false := by decide

theorem witness_TransferAnswerDecides_err :
    (sending [some (.err payload)]).plan = .xfer 0x0128 :: [.setSel true, .commit .ok] ∧
    (sending [some (.err payload)]).answers = some (.err payload) :: [] ∧
    ∀ c, Action.commit c ∈ [Action.setSel true, .commit .ok] → c = .ok :=
  ⟨rfl, rfl, by intro c h; simpa using h⟩

theorem witness_TransferAnswerDecides_init : ∃ s : State,
    s.plan = .xfer 0x0100 :: [.setSel true, .commit (.initOk 1)] ∧ s.answers = some (.err payload) :: [] ∧
    Action.commit (.initOk 1) ∈ [Action.setSel true, .commit (.initOk 1)] :=
  ⟨{ s0 [some (.err payload)] with plan := [.xfer 0x0100, .setSel true, .commit (.initOk 1)] }, rfl, rfl, by decide⟩

theorem witness_TransferAnswerDecides_ok :
    (sending (ok 1)).plan = .xfer 0x0128 :: [.setSel true, .commit .ok] ∧
    (sending (ok 1)).answers = some .ok :: [] := ⟨rfl, rfl⟩

theorem witness_FrequencyWriteFails : ∃ s : State, s.awaiting = false ∧ 3 < 4 ∧
    s.answers = List.replicate 3 (some .ok) ++ some (.err payload) :: [] ∧
    s.plan = (freqWords s.params 0x0100 .ch1 0x0ABCDEF).flatMap (writeReg s.params) ++ [.commit .ok] :=
  ⟨{ s0 (ok 3 ++ [some (.err payload)]) with
      plan := (freqWords Params.default 0x0100 .ch1 0x0ABCDEF).flatMap (writeReg Params.default) ++ [.commit .ok] },
    rfl, by decide, rfl, rfl⟩

theorem witness_FrequencyWriteFails_first : ∃ s : State, s.awaiting = false ∧ 0 < 4 ∧
    s.answers = List.replicate 0 (some .ok) ++ some (.err payload) :: [] ∧
    s.plan = (freqWords s.params 0x0100 .ch0 0x0ABCDEF).flatMap (writeReg s.params) ++ [.commit .ok] :=
  ⟨{ s0 [some (.err payload)] with
      plan := (freqWords Params.default 0x0100 .ch0 0x0ABCDEF).flatMap (writeReg Params.default) ++ [.commit .ok] },
    rfl, by decide, rfl, rfl⟩

theorem witness_FieldSetterFails :
    ((s0 [some (.err payload)]).awaiting = false ∧ (s0 [some (.err payload)]).inited = true ∧
      (s0 [some (.err payload)]).desync = false) ∧ (s0 [some (.err payload)]).shadow = some 0x0100 ∧
    (s0 [some (.err payload)]).answers = some (.err payload) :: [] ∧
    fieldWritten (s0 [some (.err payload)]).params.layout (.setSleep .all) = some (0x00C0, 0x00C0) := by decide

theorem witness_SilentTransportSticks : (sending [none]).Inv ∧
    (sending [none]).plan = .xfer 0x0128 :: [.setSel true, .commit .ok] ∧ (sending [none]).awaiting = false ∧
    (sending [none]).answers = none :: [] := ⟨sending_inv _, rfl, rfl, rfl⟩

/-- A desynchronised block, initialised at 10 MHz, about to perform the commit of `init 25000000`. -/
def recovering : State :=
  { s0 [] with desync := true, refHz := some 10000000, shadow := some 0x0138, plan := [.commit (.initOk 25000000)] }

theorem witness_OnlyInit_statements : ∃ t, step recovering = .next t ∧ recovering.plan ≠ [] ∧
    recovering.desync = true ∧ t.desync = false ∧ t.refHz ≠ recovering.refHz ∧ t.shadow ≠ recovering.shadow :=
  ⟨_, rfl, by decide, rfl, rfl, by decide, by decide⟩

theorem witness_OnlyInitWritesInited : ∃ s t : State, step s = .next t ∧ s.inited = false ∧ t.inited ≠ s.inited :=
  ⟨{ State.reset with plan := [.commit (.initOk 1)] }, _, rfl, rfl, by decide⟩

theorem witness_OnlyInitWritesInited_failed : ∃ s t : State, step s = .next t ∧ s.inited = true ∧ t.inited ≠ s.inited :=
  ⟨{ s0 [] with plan := [.commit (.initFailed payload)] }, _, rfl, rfl, by decide⟩

theorem witness_OnlyFailedTransferSetsDesync : ∃ s t : State, step s = .next t ∧ s.desync = false ∧ t.desync = true :=
  ⟨{ s0 [] with plan := [.commit (.failed payload)] }, _, rfl, rfl, rfl⟩

theorem witness_OnlyFailedTransferSetsDesync_abort : ∃ t, step (sending [some (.err payload)]) = .next t ∧
    .commit (.failed payload) ∈ t.plan :=
  ⟨_, rfl, by decide⟩

theorem witness_OnlySettersWriteShadow : ∃ t, exec (.setSleep .all) (s0 []) = .next t ∧ t.shadow ≠ (s0 []).shadow :=
  ⟨_, rfl, by decide⟩

theorem witness_FieldIsolation : (s0 []).params.Ok ∧ (s0 []).shadow = some 0x0100 ∧
    ((s0 []).inited = true ∧ (s0 []).desync = false) ∧
    (∃ t, exec (.setSignOutput .msb) (s0 []) = .next t ∧ t.shadow = some 0x0128) ∧
    (∃ t, exec (.setOutputMode .triangle) (s0 []) = .next t ∧ t.shadow = some 0x0102) ∧
    (∃ t, exec (.setSleep .dac) (s0 []) = .next t ∧ t.shadow = some 0x0140) :=
  ⟨by decide, rfl, ⟨rfl, rfl⟩, ⟨_, rfl, by decide⟩, ⟨_, rfl, by decide⟩, ⟨_, rfl, by decide⟩⟩

theorem witness_OnlyFourWordKinds : ∃ t, (s0 []).plan = [] ∧ (Instr.setPhaseWord 1 0xFFF).wf (s0 []).params = true ∧
    exec (.setPhaseWord 1 0xFFF) (s0 []) = .next t ∧ planWords t.plan = [0xEFFF] :=
  ⟨_, rfl, by decide, rfl, by decide⟩

theorem witness_WordsAreFramed : ∃ t, (sending (ok 1)).Inv ∧ step (sending (ok 1)) = .next t ∧
    t.trace = (sending (ok 1)).trace ++ [.xfer 0x0128] :=
  ⟨_, sending_inv _, rfl, by decide⟩

theorem witness_NoStopButSilence : stuck.Inv ∧ step stuck = .fault .transportSilent := ⟨stuck_inv, rfl⟩

theorem witness_CommandsRunToEnd : (sending (ok 1)).Inv ∧ (sending (ok 1)).plan ≠ [] ∧
    (planWords (sending (ok 1)).plan).length ≤ (sending (ok 1)).answers.length ∧
    ∀ a ∈ (sending (ok 1)).answers, a ≠ none :=
  ⟨sending_inv _, by decide, by decide, by decide⟩

theorem witness_ResetBitStaysSet : ∃ t, committing.Inv ∧ committing.params = Params.default ∧
    step committing = .next t ∧ t.inited = true ∧ t.shadow = some 0x0100 :=
  ⟨_, committing_inv, rfl, rfl, rfl, rfl⟩

theorem witness_MicroStepsAgreeWithBigStep : ∃ (s : State) (b : CommandRun), s.plan = [] ∧ s.awaiting = false ∧
    s.port = [0x2000000003E80000] ∧ runCommand s 0x2000000003E80000 s.answers = some b :=
  ⟨(s0 (ok 4)).present 0x2000000003E80000, _, rfl, rfl, rfl, rfl⟩

theorem s0_corresponds (as : List (Option Reply)) : (s0 as).Corresponds := fun _ _ => ⟨rfl, rfl⟩

theorem witness_CorrespondenceKept : ∃ b, (s0 []).Inv ∧ (s0 []).plan = [] ∧
    (s0 []).params.resetClearsCtrl = .unchanged ∧ (s0 []).Corresponds ∧
    runCommand (s0 []) 0x2000000003E80000 (ok 4) = some b :=
  ⟨_, s0_inv _, rfl, rfl, s0_corresponds _, rfl⟩

theorem witness_OkWriteReachesDevice_word : ∃ b, channelOf 1 = some .ch1 ∧
    runCommand (s0 []) 0x3010000000ABCDEF (ok 4) = some b ∧ b.result = .ok ∧
    decode (s0 []).params 0x3010000000ABCDEF = .ok (.setFrequencyWord 1 0xABCDEF) :=
  ⟨_, rfl, rfl, rfl, by decide⟩

theorem witness_OkWriteReachesDevice_frequency : ∃ b, channelOf 0 = some .ch0 ∧
    runCommand (s0 []) 0x2000000003E80000 (ok 4) = some b ∧ b.result = .ok ∧
    decode (s0 []).params 0x2000000003E80000 = .ok (.setFrequency 0 0x3E80000) ∧ (s0 []).refHz = some 25000000 :=
  ⟨_, rfl, rfl, rfl, by decide, rfl⟩

theorem witness_OkWriteReachesDevice_phase : ∃ b, channelOf 1 = some .ch1 ∧
    runCommand (s0 []) 0x4010000000000800 (ok 1) = some b ∧ b.result = .ok ∧
    decode (s0 []).params 0x4010000000000800 = .ok (.setPhaseWord 1 0x800) :=
  ⟨_, rfl, rfl, rfl, by decide⟩

theorem witness_ReceiverPairsHalves_second : ∃ r : Receiver, Params.default.Ok ∧
    r.ctrl &&& Params.default.layout.b28 ≠ 0 ∧ r.pend = some (.ch0, 0x3FFF) :=
  ⟨{ Receiver.atPowerOn with ctrl := 0x2100, pend := some (.ch0, 0x3FFF) }, by decide, by decide, rfl⟩

theorem witness_ReceiverPairsHalves_other : ∃ r : Receiver, Params.default.Ok ∧
    r.ctrl &&& Params.default.layout.b28 ≠ 0 ∧ Channel.ch1 ≠ .ch0 ∧ r.pend = some (.ch1, 0) :=
  ⟨{ Receiver.atPowerOn with ctrl := 0x2100, pend := some (.ch1, 0) }, by decide, by decide, by decide, rfl⟩

theorem witness_ReceiverWritesOneHalf_high : ∃ r : Receiver, Params.default.Ok ∧
    r.ctrl &&& Params.default.layout.b28 = 0 ∧ r.ctrl &&& Params.default.layout.hlb ≠ 0 :=
  ⟨{ Receiver.atPowerOn with ctrl := 0x1100 }, by decide, by decide, by decide⟩

theorem witness_ReceiverWritesOneHalf_low : ∃ r : Receiver, Params.default.Ok ∧
    r.ctrl &&& Params.default.layout.b28 = 0 ∧ r.ctrl &&& Params.default.layout.hlb = 0 :=
  ⟨{ Receiver.atPowerOn with ctrl := 0x0100 }, by decide, by decide, by decide⟩

theorem witness_ReceiverPairsHalves : ∃ r : Receiver, Params.default.Ok ∧ r.ctrl &&& Params.default.layout.b28 ≠ 0 ∧
    r.pend = none :=
  ⟨{ Receiver.atPowerOn with ctrl := 0x2100 }, by decide, by decide, rfl⟩

theorem witness_ReceiverTakesPhase : Params.default.Ok ∧ (0xFFF : BitVec 12).toNat < 2 ^ Params.default.phaseW := by
  decide

theorem witness_ReceiverControlAndPulse : Params.default.Ok ∧ (0x3FFF : Word16).extractLsb' 14 2 = 0 := by decide

theorem witness_scaler_statements : (28 : Nat) ≤ 28 ∧ 0 < (1 : Nat) := by decide

theorem witness_SetFrequencyIsScaledWordWrite : 0 ≤ (0x17D783FF414 : BitVec 48).toInt ∧
    (s0 []).refHz = some 25000000 ∧ (25000000 : BitVec 32) ≠ 0 ∧
    scaleHz (s0 []).params.freqFrac (0x17D783FF414 : BitVec 48).toInt.toNat (25000000 : BitVec 32).toNat < 2 ^ 28 := by
  decide

/-- Boundary operands of the lines of R105. -/
theorem witness_AssembledLinesDecode_bounds : narrow.Ok ∧
    assemble narrow (.init 0xFFFFFF) = some 0x1000000000FFFFFF ∧ assemble narrow (.init 0x1000000) = none ∧
    assemble narrow (.setfreqw 255 0xFFFFFFFFFFFF) = some 0x3FF0FFFFFFFFFFFF ∧
    assemble narrow (.setphase 256 0) = none ∧ assemble narrow (.setphase 0 0x3FF) = some 0x40000000000003FF ∧
    assemble narrow (.setwave 255) = some 0x8FF0000000000000 := by decide

theorem witness_AssembledLinesDecode : narrow.Ok ∧
    assemble narrow (.setfreq 1 ⟨true, 5, 1⟩) = some 0x2010FFFFFFFF8000 := by decide

end Sys2Proof.Tests
end

-- ==== Proofs: the parameters are constant (00_scope.md R10) ====
section
/-! The parameters travel in `State.params` (log entry 1). No operation of the block writes that field: it is kept by
each of the two micro-steps of R290, and so by every step. -/

namespace Sys2Proof.Machine

/-- A transfer, answered or waiting, keeps the parameters. -/
theorem performXfer_params {s t : State} {w : Word16} {rest : List Action} (h : s.performXfer w rest = .next t) :
    t.params = s.params := by
  obtain ⟨-, rfl⟩ | ⟨e, -, rfl⟩ | ⟨-, -, rfl⟩ := performXfer_next s t w rest h
  · simp only [State.answeredOk_params, State.takeReply_params, State.handOver_params]
  · simp only [State.answeredErr_params, State.takeReply_params, State.handOver_params]
  · exact State.handOver_params s w

/-- `Perform` (R290) keeps the parameters, whatever action stands at the head of the plan. -/
theorem perform_params {a : Action} {rest : List Action} {s t : State} (h : perform a rest s = .next t) :
    t.params = s.params := by
  cases a with
  | setSel l => cases h; exact State.performSetSel_params s l rest
  | setRst l => cases h; exact (State.performSetRst_params s l rest).trans (State.moveRst_params s l)
  | hold => cases h; exact State.performHold_params s rest
  | xfer w => exact performXfer_params h
  | commit c => cases h; exact (State.performCommit_params s c rest).trans (State.commitUpdate_params s c)

/-- The meaning of a command keeps the parameters: it refuses the command, or sets a plan and at most the shadow. -/
theorem exec_params {i : Instr} {s t : State} (h : exec i s = .next t) : t.params = s.params := by
  obtain ⟨r, -, -, rfl⟩ | ⟨f, -, -, rfl⟩ | ⟨-, sh, ch, w, -, rfl⟩ | ⟨-, c, w, ch, -, -, rfl⟩ |
    ⟨-, sh, mask, val, -, -, rfl⟩ | ⟨-, -, rfl⟩ := exec_next i s t h
  case inl => exact State.refuse_params s r
  all_goals rfl

/-- Settles O10: a step performs an action, waits, refuses a word that decodes to nothing, or runs the meaning of a
decoded command, and each of the four keeps the parameters. -/
theorem stepKeepsParams : Obligations.StepKeepsParams := by
  unfold Obligations.StepKeepsParams
  intro s t h
  obtain ⟨a, rest, -, hperform⟩ | ⟨-, -, rfl⟩ | ⟨cmd, ps, -, -, -, rfl⟩ | ⟨cmd, ps, i, -, -, -, hexec⟩ :=
    step_next s t h
  · exact perform_params hperform
  · rfl
  · exact (State.refuse_params _ _).trans (State.accept_params s cmd ps)
  · exact (exec_params hexec).trans (State.accept_params s cmd ps)

end Sys2Proof.Machine
end

-- ==== Proofs: who writes the registers (10_state.md R21 to R26) ====
section
/-! The block's registers are `inited`, `desync`, `ref_hz` and `shadow` (R21, R22, R24, R26). While a plan is performed
only a commit writes them; accepting a command writes at most the shadow. -/

namespace Sys2Proof.Machine

/-! ### The registers across a step -/

/-- `t` holds the parameters and the registers as `s` does. -/
structure State.SameRegisters (s t : State) : Prop where
  params : t.params = s.params
  inited : t.inited = s.inited
  desync : t.desync = s.desync
  refHz : t.refHz = s.refHz
  shadow : t.shadow = s.shadow

/-- A transfer, answered or waiting, writes no register (R225: a failed one leaves that to the commit). -/
theorem performXfer_sameRegisters {s t : State} {w : Word16} {rest : List Action}
    (h : s.performXfer w rest = .next t) : s.SameRegisters t := by
  obtain ⟨-, rfl⟩ | ⟨e, -, rfl⟩ | ⟨-, -, rfl⟩ := performXfer_next s t w rest h <;> constructor <;> simp

/-- Among the actions only a commit writes the registers (R290). -/
theorem perform_registers {a : Action} {rest : List Action} {s t : State} (h : perform a rest s = .next t) :
    s.SameRegisters t ∨ ∃ c, a = .commit c ∧ t = s.performCommit c rest := by
  cases a with
  | setSel l => cases h; exact .inl ⟨rfl, rfl, rfl, rfl, rfl⟩
  | setRst l => cases h; left; constructor <;> simp
  | hold => cases h; exact .inl ⟨rfl, rfl, rfl, rfl, rfl⟩
  | xfer w => exact .inl (performXfer_sameRegisters h)
  | commit c => cases h; exact .inr ⟨c, rfl, rfl⟩

/-- A step of a busy block writes the registers only by the commit at the head of its plan. -/
theorem step_registers_of_busy {s t : State} (hbusy : s.plan ≠ []) (h : step s = .next t) :
    s.SameRegisters t ∨ ∃ c rest, s.plan = .commit c :: rest ∧ t = s.performCommit c rest := by
  obtain ⟨a, rest, hplan, hperform⟩ | ⟨hidle, -, -⟩ | ⟨_, _, hidle, -⟩ | ⟨_, _, _, hidle, -⟩ := step_next s t h
  · obtain hsame | ⟨c, rfl, rfl⟩ := perform_registers hperform
    · exact .inl hsame
    · exact .inr ⟨c, rest, hplan, rfl⟩
  all_goals exact absurd hidle hbusy

/-- Accepting a command writes neither the flags nor the reference clock. -/
theorem exec_flags_clock {i : Instr} {s t : State} (h : exec i s = .next t) :
    t.inited = s.inited ∧ t.desync = s.desync ∧ t.refHz = s.refHz := by
  obtain ⟨r, -, -, rfl⟩ | ⟨f, -, -, rfl⟩ | ⟨-, sh, ch, w, -, rfl⟩ | ⟨-, c, w, ch, -, -, rfl⟩ |
    ⟨-, sh, mask, val, -, -, rfl⟩ | ⟨-, -, rfl⟩ := exec_next i s t h
  all_goals exact ⟨rfl, rfl, rfl⟩

/-- A step writes the flags and the reference clock only by the commit at the head of the plan. -/
theorem step_flags_clock {s t : State} (h : step s = .next t) :
    (t.inited = s.inited ∧ t.desync = s.desync ∧ t.refHz = s.refHz) ∨
    ∃ c rest, s.plan = .commit c :: rest ∧ t = s.performCommit c rest := by
  obtain ⟨a, rest, hplan, -⟩ | ⟨-, -, rfl⟩ | ⟨cmd, ps, -, -, -, rfl⟩ | ⟨cmd, ps, i, -, -, -, hexec⟩ :=
    step_next s t h
  · exact (step_registers_of_busy (by simp [hplan]) h).imp_left fun same => ⟨same.inited, same.desync, same.refHz⟩
  · exact .inl ⟨rfl, rfl, rfl⟩
  · exact .inl ⟨rfl, rfl, rfl⟩
  · exact .inl (exec_flags_clock (s := s.accept cmd ps) hexec)

/-- INIT's two commits are the only steps that write `inited` or the reference clock, and the only ones of a busy block
that write the shadow (R124, R126). -/
theorem step_init_commit {s t : State} (h : step s = .next t) :
    (∃ f rest, s.plan = .commit (.initOk f) :: rest ∧ t = s.performCommit (.initOk f) rest) ∨
    (∃ e rest, s.plan = .commit (.initFailed e) :: rest ∧ t = s.performCommit (.initFailed e) rest) ∨
    (t.inited = s.inited ∧ t.refHz = s.refHz ∧ (s.plan ≠ [] → t.shadow = s.shadow)) := by
  obtain hidle | hbusy := eq_or_ne s.plan []
  · obtain ⟨hinited, -, hclock⟩ | ⟨c, rest, hplan, -⟩ := step_flags_clock h
    · exact .inr (.inr ⟨hinited, hclock, (absurd hidle ·)⟩)
    · exact nomatch hidle.symm.trans hplan
  · obtain hsame | ⟨c, rest, hplan, rfl⟩ := step_registers_of_busy hbusy h
    · exact .inr (.inr ⟨hsame.inited, hsame.refHz, fun _ => hsame.shadow⟩)
    cases c with
    | initOk f => exact .inl ⟨f, rest, hplan, rfl⟩
    | initFailed e => exact .inr (.inl ⟨e, rest, hplan, rfl⟩)
    | ok => exact .inr (.inr ⟨rfl, rfl, fun _ => rfl⟩)
    | failed e => exact .inr (.inr ⟨rfl, rfl, fun _ => rfl⟩)

/-! ### The failure update in the plan -/

@[simp] theorem commit_notMem_writeReg (p : Params) (w : Word16) (c : Commit) : .commit c ∉ writeReg p w := by
  simp [writeReg]

@[simp] theorem commit_notMem_resetPulse (p : Params) (c : Commit) : .commit c ∉ resetPulse p := by
  simp [resetPulse]

/-- A failure update of R225 in an aborted plan carries the payload of the failed transfer. -/
theorem payload_of_failed_mem_abortPlan {p : Params} {rest : List Action} {e e' : TErr}
    (h : .commit (.failed e) ∈ abortPlan p rest e') : e = e' := by
  unfold abortPlan failureCommit at h
  split at h <;> simp_all

/-- What performing an action leaves of the plan (R225, R290). -/
theorem perform_plan {a : Action} {rest : List Action} {s t : State} (h : perform a rest s = .next t) :
    t.plan = rest ∨ t.plan = s.plan ∨
    ∃ w e, a = .xfer w ∧ s.nextReply = some (.err e) ∧ t.plan = abortPlan s.params rest e := by
  cases a with
  | xfer w =>
    obtain ⟨-, rfl⟩ | ⟨e, hreply, rfl⟩ | ⟨-, -, rfl⟩ := performXfer_next s t w rest h
    · exact .inl rfl
    · exact .inr (.inr ⟨w, e, rfl, hreply, by simp⟩)
    · exact .inr (.inl (State.handOver_plan s w))
  | setSel l => cases h; exact .inl rfl
  | setRst l => cases h; exact .inl rfl
  | hold => cases h; exact .inl rfl
  | commit c => cases h; exact .inl rfl

/-- No command is accepted with a failure update in its plan. -/
theorem failed_mem_of_exec {i : Instr} {s t : State} {e : TErr} (h : exec i s = .next t)
    (hmem : .commit (.failed e) ∈ t.plan) : .commit (.failed e) ∈ s.plan := by
  obtain ⟨r, -, -, rfl⟩ | ⟨f, -, -, rfl⟩ | ⟨-, sh, ch, w, -, rfl⟩ | ⟨-, c, w, ch, -, -, rfl⟩ |
    ⟨-, sh, mask, val, -, -, rfl⟩ | ⟨-, -, rfl⟩ := exec_next i s t h
  case inl => exact hmem
  all_goals simp [initPlan, freqWritePlan, oneWritePlan, resetPlan] at hmem

/-- A commit gives its one result (R108). -/
@[simp] theorem State.performCommit_results (s : State) (c : Commit) (rest : List Action) :
    (s.performCommit c rest).results = s.results ++ [commitResult c] := by
  simp [State.results]

/-! ### The statements -/

/-- Settles O33: the clock changes only in a commit of INIT. -/
theorem onlyInitWritesClock : Obligations.OnlyInitWritesClock := by
  unfold Obligations.OnlyInitWritesClock
  intro s t h hne
  obtain ⟨f, rest, hplan, rfl⟩ | ⟨e, rest, hplan, rfl⟩ | ⟨-, hclock, -⟩ := step_init_commit h
  · exact .inl ⟨f, rest, hplan, rfl, rfl⟩
  · exact .inr ⟨e, rest, hplan, rfl, rfl⟩
  · exact absurd hclock hne

/-- Settles O34: in a busy block the two commits of INIT write the shadow; of the commands accepted only a field write
(R190) does, by its mask and its value. -/
theorem onlySettersWriteShadow : Obligations.OnlySettersWriteShadow := by
  unfold Obligations.OnlySettersWriteShadow
  refine ⟨fun s t hbusy h hne => ?_, fun i s t h hne => ?_⟩
  · obtain ⟨f, rest, hplan, rfl⟩ | ⟨e, rest, hplan, rfl⟩ | ⟨-, -, hshadow⟩ := step_init_commit h
    · exact .inl ⟨f, rest, hplan, rfl⟩
    · exact .inr ⟨e, rest, hplan, rfl⟩
    · exact absurd (hshadow hbusy) hne
  · obtain ⟨r, -, -, rfl⟩ | ⟨f, -, -, rfl⟩ | ⟨-, sh, ch, w, -, rfl⟩ | ⟨-, c, w, ch, -, -, rfl⟩ |
      ⟨-, sh, mask, val, hshadow, hfield, rfl⟩ | ⟨-, -, rfl⟩ := exec_next i s t h
    case inr.inr.inr.inr.inl => exact ⟨sh, mask, val, hshadow, hfield, rfl⟩
    all_goals exact absurd rfl hne

/-- Settles O57: `inited` changes only in a commit of INIT. -/
theorem onlyInitWritesInited : Obligations.OnlyInitWritesInited := by
  unfold Obligations.OnlyInitWritesInited
  intro s t h hne
  obtain ⟨f, rest, hplan, rfl⟩ | ⟨e, rest, hplan, rfl⟩ | ⟨hinited, -, -⟩ := step_init_commit h
  · exact .inl ⟨f, rest, hplan, rfl⟩
  · exact .inr ⟨e, rest, hplan, rfl⟩
  · exact absurd hinited hne

/-- Settles O58: of the four commits only the failure update of R225 sets `desync`, and only the abort of a plan
(`abortPlan`) puts that update into it. -/
theorem onlyFailedTransferSetsDesync : Obligations.OnlyFailedTransferSetsDesync := by
  unfold Obligations.OnlyFailedTransferSetsDesync
  refine ⟨fun s t h hclear hset => ?_, fun s t e h hmem => ?_⟩
  · obtain ⟨-, hdesync, -⟩ | ⟨c, rest, hplan, rfl⟩ := step_flags_clock h
    · exact absurd (hset.symm.trans (hdesync.trans hclear)) (by decide)
    cases c with
    | failed e => exact ⟨e, rest, hplan, State.performCommit_results _ _ _⟩
    | ok => exact absurd (hset.symm.trans hclear) (by decide)
    | initOk f => cases hset
    | initFailed e => cases hset
  · obtain ⟨a, rest, hplan, hperform⟩ | ⟨-, -, rfl⟩ | ⟨cmd, ps, -, -, -, rfl⟩ | ⟨cmd, ps, i, -, -, -, hexec⟩ :=
      step_next s t h
    · obtain hrest | hsame | ⟨w, e', rfl, hreply, habort⟩ := perform_plan hperform
      · exact .inl (hplan ▸ List.mem_cons_of_mem a (hrest ▸ hmem))
      · exact .inl (hsame ▸ hmem)
      · cases payload_of_failed_mem_abortPlan (habort ▸ hmem)
        exact .inr ⟨w, rest, hplan, hreply⟩
    · exact .inl hmem
    · exact .inl hmem
    · exact .inl (failed_mem_of_exec (s := s.accept cmd ps) hexec hmem)

end Sys2Proof.Machine
end

-- ==== Proofs: every step keeps the invariant (10_state.md R30, R31, R32) ====
section
/-! A step of an idle block either starts a plan of the right shape (and a field write keeps R30), or changes the ports
only. A step of a busy block takes the head off the plan; only a commit writes a register then. -/

namespace Sys2Proof.Machine

/-! ### A field write and the bits outside the field (R30, R99, R190) -/

/-- Bit by bit: `v` has no bit outside `mask`. -/
theorem within16_iff {v mask : Word16} : Within16 v mask ↔ ∀ i, v.getLsbD i = true → mask.getLsbD i = true := by
  constructor
  · intro h i hv
    have hbit := congrArg (·.getLsbD i) h
    simpa [hv, BitVec.lt_of_getLsbD hv] using hbit
  · intro h
    apply BitVec.eq_of_getLsbD_eq
    intro i hi
    have hbit := h i
    cases hv : v.getLsbD i <;> simp_all

/-- Bit by bit: `a` and `b` have no common bit. -/
theorem disjoint16_iff {a b : Word16} : Disjoint16 a b ↔ ∀ i, a.getLsbD i = true → b.getLsbD i = false := by
  constructor
  · intro h i ha
    have hbit := congrArg (·.getLsbD i) h
    simpa [ha] using hbit
  · intro h
    apply BitVec.eq_of_getLsbD_eq
    intro i hi
    have hbit := h i
    cases ha : a.getLsbD i <;> simp_all

/-- A field write leaves the bits of every word `m` that is disjoint from the field's mask. -/
theorem insertField_and_of_disjoint {sh mask val m : Word16} (hval : Within16 val mask) (hm : Disjoint16 mask m) :
    insertField sh mask val &&& m = sh &&& m := by
  rw [within16_iff] at hval
  rw [disjoint16_iff] at hm
  apply BitVec.eq_of_getLsbD_eq
  intro i hi
  have hval' := hval i
  have hm' := hm i
  simp only [insertField, BitVec.getLsbD_and, BitVec.getLsbD_or, BitVec.getLsbD_not, hi]
  cases hmask : mask.getLsbD i <;> simp_all

/-- The tag of a word lies in the bits `0xC000` (R51). -/
theorem tagBits_and_mask (w : Word16) : tagBits (w &&& 0xC000) = tagBits w := by
  have hmask : (0xC000 : Word16).extractLsb' 14 2 = BitVec.allOnes 2 := by decide
  rw [tagBits, BitVec.extractLsb'_and, hmask, BitVec.and_allOnes, tagBits]

/-- The bits of the three fields that the setters write (R30). -/
def fieldBits (l : CtrlLayout) : Word16 := l.signMask ||| l.modeMask ||| l.sleepMask

/-- What R30 needs of a field write: the value lies within the mask, and the mask lies in the fields, clear of `B28` and
of the tag. -/
structure FieldOk (l : CtrlLayout) (mask val : Word16) : Prop where
  valWithin : Within16 val mask
  inFields : Within16 mask (fieldBits l)
  clearOfB28 : Disjoint16 mask l.b28
  clearOfTag : Disjoint16 mask 0xC000

/-- Two fields written at once (R206). -/
theorem FieldOk.or {l : CtrlLayout} {m₁ m₂ v₁ v₂ : Word16} (h₁ : FieldOk l m₁ v₁) (h₂ : FieldOk l m₂ v₂) :
    FieldOk l (m₁ ||| m₂) (v₁ ||| v₂) := by
  obtain ⟨hval₁, hin₁, hb28₁, htag₁⟩ := h₁
  obtain ⟨hval₂, hin₂, hb28₂, htag₂⟩ := h₂
  rw [within16_iff] at hval₁ hval₂ hin₁ hin₂
  rw [disjoint16_iff] at hb28₁ hb28₂ htag₁ htag₂
  constructor
  · rw [within16_iff]
    simpa using fun i hi => hi.imp (hval₁ i) (hval₂ i)
  · rw [within16_iff]
    simpa using fun i hi => hi.elim (hin₁ i) (hin₂ i)
  · rw [disjoint16_iff]
    simpa using fun i hi => hi.elim (hb28₁ i) (hb28₂ i)
  · rw [disjoint16_iff]
    simpa using fun i hi => hi.elim (htag₁ i) (htag₂ i)

section
variable {l : CtrlLayout} {phaseW : Nat} (hl : l.Ok phaseW)
include hl

theorem signField_ok (c : SignCode) : FieldOk l l.signMask (signVal l c) := by
  obtain ⟨⟨⟨-, -, hb28, htag⟩, -⟩, ⟨⟨hnone, hmsb, hmsb2, hcomparator⟩, -⟩, -⟩ := hl
  refine ⟨?_, within16_iff.2 fun i hi => by simp [fieldBits, hi], hb28, htag⟩
  cases c <;> assumption

theorem modeField_ok (m : ModeCode) : FieldOk l l.modeMask (modeVal l m) := by
  obtain ⟨⟨-, ⟨-, hb28, htag⟩, -⟩, ⟨-, ⟨hsine, htriangle⟩, -⟩, -⟩ := hl
  refine ⟨?_, within16_iff.2 fun i hi => by simp [fieldBits, hi], hb28, htag⟩
  cases m <;> assumption

theorem sleepField_ok (z : SleepCode) : FieldOk l l.sleepMask (sleepVal l z) := by
  obtain ⟨⟨-, -, ⟨hb28, htag⟩, -⟩, ⟨-, -, hnone, hmclk, hdac, hall⟩, -⟩ := hl
  refine ⟨?_, within16_iff.2 fun i hi => by simp [fieldBits, hi], hb28, htag⟩
  cases z <;> assumption

/-- Every field write of a command is one that R30 allows (R99). -/
theorem fieldWritten_ok {i : Instr} {mask val : Word16} (h : fieldWritten l i = some (mask, val)) :
    FieldOk l mask val := by
  cases i with
  | setSignOutput c => cases h; exact signField_ok hl c
  | setOutputMode m => cases h; exact modeField_ok hl m
  | setSleep z => cases h; exact sleepField_ok hl z
  | setOutputWave k =>
    obtain ⟨⟨c, m⟩, -, hfield⟩ := Option.map_eq_some_iff.1 h
    cases hfield
    exact (signField_ok hl c).or (modeField_ok hl m)
  | init _ => cases h
  | setFrequency _ _ => cases h
  | setFrequencyWord _ _ => cases h
  | setPhaseWord _ _ => cases h
  | reset => cases h

end

/-- A field write keeps R30. -/
theorem shadowOk_insertField {s : State} {sh mask val : Word16} (hs : s.ShadowOk) (hshadow : s.shadow = some sh)
    (hfield : FieldOk s.params.layout mask val) :
    ({ s with shadow := some (insertField sh mask val) } : State).ShadowOk := by
  intro hinited
  obtain ⟨sh', hshadow', htag, hb28, hrest⟩ := hs hinited
  cases hshadow.symm.trans hshadow'
  have hout : Disjoint16 mask (~~~fieldBits s.params.layout) := hfield.inFields
  refine ⟨_, rfl, ?_, ?_, ?_⟩
  · rw [← tagBits_and_mask, insertField_and_of_disjoint hfield.valWithin hfield.clearOfTag, tagBits_and_mask, htag]
  · exact (insertField_and_of_disjoint hfield.valWithin hfield.clearOfB28).trans hb28
  · exact (insertField_and_of_disjoint hfield.valWithin hout).trans hrest

/-! ### The shape of a plan, one equation per action (R27, R31, R224, R226, R294) -/

section
variable (p : Params) (sel rst : Bool) (rest : List Action)

@[simp] theorem planShape_nil : planShape p sel rst [] = false := by simp [planShape]

theorem planShape_commit (c : Commit) :
    planShape p sel rst (.commit c :: rest) = true ↔
      rest = [] ∧ sel = !p.selActive ∧ rst = !p.rstActive ∧ commitAllowed c = true := by
  cases rest <;> simp [planShape, and_assoc]

theorem planShape_setSel (l : Bool) :
    planShape p sel rst (.setSel l :: rest) = true ↔ rst = !p.rstActive ∧ planShape p l rst rest = true := by
  simp [planShape]

theorem planShape_setRst (l : Bool) :
    planShape p sel rst (.setRst l :: rest) = true ↔ sel = !p.selActive ∧ planShape p sel l rest = true := by
  simp [planShape]

theorem planShape_hold :
    planShape p sel rst (.hold :: rest) = true ↔
      sel = !p.selActive ∧ rst = p.rstActive ∧ planShape p sel rst rest = true := by
  simp [planShape, and_assoc]

theorem planShape_xfer (w : Word16) :
    planShape p sel rst (.xfer w :: rest) = true ↔
      sel = p.selActive ∧ rst = !p.rstActive ∧ rest.head? = some (.setSel (!p.selActive)) ∧
        planShape p sel rst rest = true := by
  simp [planShape, and_assoc]

/-- A framed word leads from released lines to released lines (R224). -/
theorem planShape_writeReg (w : Word16) :
    planShape p (!p.selActive) (!p.rstActive) (writeReg p w ++ rest) =
      planShape p (!p.selActive) (!p.rstActive) rest := by
  simp [writeReg, planShape]

/-- A reset pulse leads from released lines to released lines (R226). -/
theorem planShape_resetPulse :
    planShape p (!p.selActive) (!p.rstActive) (resetPulse p ++ rest) =
      planShape p (!p.selActive) (!p.rstActive) rest := by
  simp [resetPulse, planShape]

/-- A commit alone is a plan that starts at released lines. -/
theorem planShape_lone_commit (c : Commit) :
    planShape p (!p.selActive) (!p.rstActive) [.commit c] = commitAllowed c := by
  simp [planShape]

end

theorem planShape_initPlan (p : Params) {f : BitVec 32} (hf : f ≠ 0) :
    planShape p (!p.selActive) (!p.rstActive) (initPlan p f) = true := by
  rw [initPlan, List.append_assoc, planShape_resetPulse, planShape_writeReg, planShape_lone_commit]
  exact decide_eq_true hf

theorem planShape_freqWritePlan (p : Params) (sh : Word16) (ch : Channel) (w : FreqWord) :
    planShape p (!p.selActive) (!p.rstActive) (freqWritePlan p sh ch w) = true := by
  simp only [freqWritePlan, List.append_assoc, planShape_writeReg, planShape_lone_commit, commitAllowed]

theorem planShape_oneWritePlan (p : Params) (w : Word16) :
    planShape p (!p.selActive) (!p.rstActive) (oneWritePlan p w) = true := by
  rw [oneWritePlan, planShape_writeReg, planShape_lone_commit, commitAllowed]

theorem planShape_resetPlan (p : Params) : planShape p (!p.selActive) (!p.rstActive) (resetPlan p) = true := by
  rw [resetPlan, planShape_resetPulse, planShape_lone_commit, commitAllowed]

/-- The plan of a failed transfer releases the select line and commits (R225). -/
theorem planShape_abortPlan (p : Params) (sel : Bool) (rest : List Action) (e : TErr) :
    planShape p sel (!p.rstActive) (abortPlan p rest e) = true := by
  unfold abortPlan failureCommit
  split <;> simp [planShape, commitAllowed]

/-- An aborted plan belongs to INIT exactly when the plan it replaces does (R126, R225). -/
theorem isInitPlan_abortPlan (p : Params) (rest : List Action) (e : TErr) :
    isInitPlan (abortPlan p rest e) = isInitPlan rest := by
  unfold abortPlan failureCommit
  cases h : isInitPlan rest <;> rfl

theorem isInitPlan_initPlan (p : Params) (f : BitVec 32) : isInitPlan (initPlan p f) = true := rfl

/-! ### The invariant, part by part -/

/-- A block that waits for no answer meets `AwaitingOk`. -/
theorem State.AwaitingOk.of_not_awaiting {s : State} (h : s.awaiting = false) : s.AwaitingOk :=
  fun h' => absurd (h.symm.trans h') (by decide)

/-- Outside a transfer the block waits for no answer (R290). -/
theorem State.Inv.not_awaiting {s : State} (hs : s.Inv) (hplan : ∀ w rest, s.plan ≠ .xfer w :: rest) :
    s.awaiting = false := by
  obtain ⟨-, -, -, -, hawaiting, -⟩ := hs
  refine Bool.eq_false_iff.2 fun h => ?_
  obtain ⟨w, rest, hxfer⟩ := hawaiting h
  exact hplan w rest hxfer

/-- What is left of the plan of a busy block has the shape of a plan. -/
theorem State.Inv.planShape_of_busy {s : State} (hs : s.Inv) {a : Action} {rest : List Action}
    (hplan : s.plan = a :: rest) : planShape s.params s.selOut s.rstOut (a :: rest) = true := by
  obtain ⟨-, -, -, ⟨-, hshape⟩, -, -⟩ := hs
  exact hplan ▸ hshape (by simp [hplan])

/-- A busy block whose plan is not INIT's is initialised (R244). -/
theorem State.Inv.inited_of_busy {s : State} (hs : s.Inv) {a : Action} {rest : List Action} (hplan : s.plan = a :: rest)
    (hinit : isInitPlan (a :: rest) = false) : s.inited = true := by
  obtain ⟨-, -, -, -, -, -, hbusy⟩ := hs
  exact hbusy (by simp [hplan]) (hplan ▸ hinit)

/-- What has the shape of a plan is no empty plan. -/
theorem planOk_of_planShape {s : State} (h : planShape s.params s.selOut s.rstOut s.plan = true) : s.PlanOk :=
  ⟨fun hplan => by simp [hplan] at h, fun _ => h⟩

/-- A busy state with the registers of a state that meets the invariant: only the plan is left to check. -/
theorem inv_of_sameRegisters {s t : State} (hs : s.Inv) (hsame : s.SameRegisters t)
    (hshape : planShape t.params t.selOut t.rstOut t.plan = true) (hawaiting : t.AwaitingOk)
    (hinit : isInitPlan t.plan = false → s.inited = true) : t.Inv := by
  obtain ⟨hparams, hinited, hdesync, hclock, hshadow⟩ := hsame
  obtain ⟨hok, hshadowOk, hclockOk, -, -, hdesyncOk, -⟩ := hs
  refine ⟨hparams ▸ hok, ?_, ?_, planOk_of_planShape hshape, hawaiting, ?_, ?_⟩
  · rwa [State.ShadowOk, hinited, hshadow, hparams]
  · rwa [State.ClockOk, hinited, hclock]
  · rwa [hdesync, hinited]
  · exact fun _ h => hinited.trans (hinit h)

/-! ### A step of a busy block -/

theorem performSetSel_inv {s : State} {l : Bool} {rest : List Action} (hs : s.Inv)
    (hplan : s.plan = .setSel l :: rest) : (s.performSetSel l rest).Inv := by
  obtain ⟨-, hshape⟩ := (planShape_setSel _ _ _ _ _).1 (hs.planShape_of_busy hplan)
  exact inv_of_sameRegisters hs ⟨rfl, rfl, rfl, rfl, rfl⟩ hshape
    (.of_not_awaiting (hs.not_awaiting (by simp [hplan]))) (hs.inited_of_busy hplan)

theorem performSetRst_inv {s : State} {l : Bool} {rest : List Action} (hs : s.Inv)
    (hplan : s.plan = .setRst l :: rest) : (s.performSetRst l rest).Inv := by
  obtain ⟨-, hshape⟩ := (planShape_setRst _ _ _ _ _).1 (hs.planShape_of_busy hplan)
  refine inv_of_sameRegisters hs (by constructor <;> simp) (by simpa using hshape) (.of_not_awaiting ?_)
    (hs.inited_of_busy hplan)
  simpa using hs.not_awaiting (by simp [hplan])

theorem performHold_inv {s : State} {rest : List Action} (hs : s.Inv) (hplan : s.plan = .hold :: rest) :
    (s.performHold rest).Inv := by
  obtain ⟨-, -, hshape⟩ := (planShape_hold _ _ _ _).1 (hs.planShape_of_busy hplan)
  exact inv_of_sameRegisters hs ⟨rfl, rfl, rfl, rfl, rfl⟩ hshape
    (.of_not_awaiting (hs.not_awaiting (by simp [hplan]))) (hs.inited_of_busy hplan)

/-- A transfer answered `Ok` goes on with the plan, one answered `Err` aborts it (R225), and one not answered stays at
its head. -/
theorem performXfer_inv {s t : State} {w : Word16} {rest : List Action} (hs : s.Inv) (hplan : s.plan = .xfer w :: rest)
    (h : s.performXfer w rest = .next t) : t.Inv := by
  have hshape := hs.planShape_of_busy hplan
  obtain ⟨-, hrst, -, hrest⟩ := (planShape_xfer _ _ _ _ _).1 hshape
  have hinit : isInitPlan rest = false → s.inited = true := hs.inited_of_busy hplan
  have hsame := performXfer_sameRegisters h
  obtain ⟨-, rfl⟩ | ⟨e, -, rfl⟩ | ⟨-, -, rfl⟩ := performXfer_next s t w rest h
  · exact inv_of_sameRegisters hs hsame (by simpa using hrest) (.of_not_awaiting rfl) hinit
  · refine inv_of_sameRegisters hs hsame ?_ (.of_not_awaiting rfl) ?_
    · simpa [hrst] using planShape_abortPlan s.params s.selOut rest e
    · simpa [isInitPlan_abortPlan] using hinit
  · refine inv_of_sameRegisters hs hsame ?_ (fun _ => ⟨w, rest, ?_⟩) ?_
    · simpa [hplan] using hshape
    · rw [State.handOver_plan, hplan]
    · rw [State.handOver_plan, hplan]
      exact hinit

/-- A commit empties the plan at released lines, and its registers meet R30 and R32: INIT's are a non-zero clock and the
initial control word (R100, R122), and `desync` is set in an initialised block only. -/
theorem performCommit_inv {s : State} {c : Commit} {rest : List Action} (hs : s.Inv)
    (hplan : s.plan = .commit c :: rest) : (s.performCommit c rest).Inv := by
  have hawaiting := hs.not_awaiting (by simp [hplan])
  obtain ⟨rfl, hsel, hrst, hallowed⟩ := (planShape_commit _ _ _ _ _).1 (hs.planShape_of_busy hplan)
  have hinit := hs.inited_of_busy hplan
  obtain ⟨hok, hshadow, hclock, -, -, hdesync, -⟩ := hs
  have hplanOk : (s.performCommit c []).PlanOk :=
    ⟨fun _ => by simpa [State.LinesReleased] using ⟨hsel, hrst⟩, fun h => absurd rfl h⟩
  have hawaitingOk : (s.performCommit c []).AwaitingOk := .of_not_awaiting (by simpa using hawaiting)
  cases c with
  | initOk f =>
    have ⟨_, ⟨htag, hb28⟩, _⟩ := hok
    exact ⟨hok, fun _ => ⟨_, rfl, htag, hb28, rfl⟩, fun _ => ⟨f, rfl, of_decide_eq_true hallowed⟩, hplanOk, hawaitingOk,
      fun _ => rfl, fun h => absurd rfl h⟩
  | ok => exact ⟨hok, hshadow, hclock, hplanOk, hawaitingOk, hdesync, fun h => absurd rfl h⟩
  | initFailed e =>
    exact ⟨hok, (nomatch ·), (nomatch ·), hplanOk, hawaitingOk, (nomatch ·), fun h => absurd rfl h⟩
  | failed e =>
    exact ⟨hok, hshadow, hclock, hplanOk, hawaitingOk, fun _ => hinit rfl, fun h => absurd rfl h⟩

theorem perform_inv {a : Action} {rest : List Action} {s t : State} (hs : s.Inv) (hplan : s.plan = a :: rest)
    (h : perform a rest s = .next t) : t.Inv := by
  cases a with
  | setSel l => cases h; exact performSetSel_inv hs hplan
  | setRst l => cases h; exact performSetRst_inv hs hplan
  | hold => cases h; exact performHold_inv hs hplan
  | xfer w => exact performXfer_inv hs hplan h
  | commit c => cases h; exact performCommit_inv hs hplan

/-! ### A step of an idle block -/

theorem accept_inv {s : State} (hs : s.Inv) (cmd : CmdWord) (ps : List CmdWord) : (s.accept cmd ps).Inv := hs

theorem refuse_inv {s : State} (hs : s.Inv) (r : Result) : (s.refuse r).Inv := hs

/-- An idle block starts a plan that leads from released lines; only INIT's starts in a block not initialised. -/
theorem startPlan_inv {s : State} {plan : List Action} (hs : s.Inv) (hidle : s.plan = [])
    (hshape : planShape s.params (!s.params.selActive) (!s.params.rstActive) plan = true)
    (hinit : isInitPlan plan = false → s.inited = true) : ({ s with plan := plan } : State).Inv := by
  have hawaiting := hs.not_awaiting (by simp [hidle])
  have ⟨_, _, _, ⟨hreleased, _⟩, _, _⟩ := hs
  obtain ⟨hsel, hrst⟩ := hreleased hidle
  refine inv_of_sameRegisters hs ⟨rfl, rfl, rfl, rfl, rfl⟩ ?_ (.of_not_awaiting hawaiting) hinit
  rwa [← hsel, ← hrst] at hshape

theorem fieldWrite_inv {s : State} {sh mask val : Word16} (hs : s.Inv) (hshadow : s.shadow = some sh)
    (hfield : FieldOk s.params.layout mask val) :
    ({ s with shadow := some (insertField sh mask val) } : State).Inv := by
  obtain ⟨hok, hshadowOk, hrest⟩ := hs
  exact ⟨hok, shadowOk_insertField hshadowOk hshadow hfield, hrest⟩

/-- The meaning of a command keeps the invariant of an idle block. -/
theorem exec_inv {i : Instr} {s t : State} (hs : s.Inv) (hidle : s.plan = []) (h : exec i s = .next t) : t.Inv := by
  have ⟨⟨_, _, hlayout⟩, _⟩ := hs
  obtain ⟨r, -, -, rfl⟩ | ⟨f, hf, -, rfl⟩ | ⟨⟨hinited, -⟩, sh, ch, w, -, rfl⟩ | ⟨⟨hinited, -⟩, c, w, ch, -, -, rfl⟩ |
    ⟨⟨hinited, -⟩, sh, mask, val, hshadow, hfield, rfl⟩ | ⟨⟨hinited, -⟩, -, rfl⟩ := exec_next i s t h
  · exact refuse_inv hs r
  · exact startPlan_inv hs hidle (planShape_initPlan _ hf) (by simp [isInitPlan_initPlan])
  · exact startPlan_inv hs hidle (planShape_freqWritePlan _ _ _ _) fun _ => hinited
  · exact startPlan_inv hs hidle (planShape_oneWritePlan _ _) fun _ => hinited
  · exact startPlan_inv (fieldWrite_inv hs hshadow (fieldWritten_ok hlayout hfield)) hidle (planShape_oneWritePlan _ _)
      fun _ => hinited
  · exact startPlan_inv hs hidle (planShape_resetPlan _) fun _ => hinited

/-! ### The statements -/

/-- Settles O38: by the four kinds of step, each of which keeps the invariant. -/
theorem stepKeepsInvariant : Obligations.StepKeepsInvariant := by
  unfold Obligations.StepKeepsInvariant
  intro s t hs h
  obtain ⟨a, rest, hplan, hperform⟩ | ⟨-, -, rfl⟩ | ⟨cmd, ps, -, -, -, rfl⟩ | ⟨cmd, ps, i, hidle, -, -, hexec⟩ :=
    step_next s t h
  · exact perform_inv hs hplan hperform
  · exact hs
  · exact refuse_inv (accept_inv hs cmd ps) _
  · exact exec_inv (accept_inv hs cmd ps) hidle hexec

/-- The power-on reset meets the invariant under all parameters that R10 allows (R37). -/
theorem powerOn_inv {p : Params} (hp : p.Ok) : (State.powerOn p).Inv :=
  ⟨hp, (nomatch ·), (nomatch ·), ⟨fun _ => ⟨rfl, rfl⟩, fun h => absurd rfl h⟩, (nomatch ·), (nomatch ·),
    fun h => absurd rfl h⟩

/-- Settles O39: the reset state is the power-on state of the default parameters, and R10 allows those. -/
theorem resetMeetsInvariant : Obligations.ResetMeetsInvariant := by
  unfold Obligations.ResetMeetsInvariant
  exact powerOn_inv (by decide)

/-- Settles O40: the fields are written out in `State.powerOn` (R37), and a block with an empty plan and nothing at its
port waits. -/
theorem resetValues : Obligations.ResetValues := by
  unfold Obligations.ResetValues
  intro p
  exact ⟨rfl, rfl, rfl, rfl, rfl, rfl, rfl, rfl, rfl⟩

end Sys2Proof.Machine
end

-- ==== Proofs: no stop but silence (10_state.md R37, 60_exceptions.md R253) ====
section
/-! A step ends in a next state or in the silence of R253: under the invariant a ready block has its shadow and a
non-zero clock, so the meaning of every command is a next state. -/

namespace Sys2Proof.Machine

/-- The flags are checked before every other check of a command that is not INIT (R244, R251, R255). -/
theorem exec_of_notReady {i : Instr} {s : State} {r : Result} (hi : ∀ f, i ≠ .init f) (hr : s.notReady = some r) :
    exec i s = .next (s.refuse r) := by
  cases i with
  | init f => exact absurd rfl (hi f)
  | setFrequency ch q => simp [exec, execSetFrequency, hr]
  | setFrequencyWord ch raw => simp [exec, execSetFrequencyWord, hr]
  | setPhaseWord ch w => simp [exec, execSetPhaseWord, hr]
  | setSignOutput c => simp [exec, execSetSignOutput, hr]
  | setOutputMode m => simp [exec, execSetOutputMode, hr]
  | setSleep z => simp [exec, execSetSleep, hr]
  | setOutputWave k => simp [exec, execSetOutputWave, hr]
  | reset => simp [exec, execReset, hr]

/-- With a shadow and a non-zero clock a scaled frequency write does not stop (R122, R151, R152). -/
theorem setScaledFrequency_total {s : State} {sh : Word16} {r : BitVec 32} (c : Channel) (q : BitVec 48)
    (hshadow : s.shadow = some sh) (hclock : s.refHz = some r) (hr : r ≠ 0) :
    ∃ t, setScaledFrequency c q s = .next t := by
  simp only [setScaledFrequency, hclock, hr, if_false, startFreqWrite_of_some s _ _ sh hshadow]
  split
  · exact ⟨_, rfl⟩
  · split <;> exact ⟨_, rfl⟩

/-- INIT does not look at the state (R122): it is refused or starts its plan. -/
theorem exec_init_total (f : BitVec 32) (s : State) : ∃ t, exec (.init f) s = .next t := by
  simp only [exec, execInit]
  split <;> exact ⟨_, rfl⟩

/-- With a shadow and a non-zero clock the meaning of a command in a ready block is a next state. -/
theorem exec_total_of_ready {i : Instr} {s : State} {sh : Word16} {r : BitVec 32} (hready : s.notReady = none)
    (hshadow : s.shadow = some sh) (hclock : s.refHz = some r) (hr : r ≠ 0) : ∃ t, exec i s = .next t := by
  have hfieldSet (mask val : Word16) : ∃ t, s.fieldSet mask val = .next t :=
    ⟨_, fieldSet_of_some s mask val sh hshadow⟩
  cases i with
  | init f => exact exec_init_total f s
  | setFrequency ch q =>
    simp only [exec, execSetFrequency, hready]
    split
    · exact ⟨_, rfl⟩
    · exact setScaledFrequency_total _ q hshadow hclock hr
  | setFrequencyWord ch raw =>
    simp only [exec, execSetFrequencyWord, hready]
    split
    · exact ⟨_, rfl⟩
    · split
      · exact ⟨_, rfl⟩
      · exact ⟨_, startFreqWrite_of_some s _ _ sh hshadow⟩
  | setPhaseWord ch w => simp only [exec, execSetPhaseWord, hready]; split <;> exact ⟨_, rfl⟩
  | setSignOutput c => simpa only [exec, execSetSignOutput, hready] using hfieldSet _ _
  | setOutputMode m => simpa only [exec, execSetOutputMode, hready] using hfieldSet _ _
  | setSleep z => simpa only [exec, execSetSleep, hready] using hfieldSet _ _
  | setOutputWave k =>
    simp only [exec, execSetOutputWave, hready]
    split
    · exact ⟨_, rfl⟩
    · exact hfieldSet _ _
  | reset => simp only [exec, execReset, hready]; exact ⟨_, rfl⟩

/-- Under the invariant the meaning of every command is a next state: no absent register is read, no clock of zero is
divided by, and nothing is refused (R37, I1, R122). -/
theorem exec_total {s : State} (i : Instr) (hs : s.Inv) : ∃ t, exec i s = .next t := by
  obtain ⟨-, hshadowOk, hclockOk, -, -, -⟩ := hs
  cases hready : s.notReady with
  | none =>
    obtain ⟨hinited, -⟩ := (notReady_eq_none_iff s).1 hready
    obtain ⟨sh, hshadow, -⟩ := hshadowOk hinited
    obtain ⟨r, hclock, hr⟩ := hclockOk hinited
    exact exec_total_of_ready hready hshadow hclock hr
  | some r =>
    by_cases hi : ∃ f, i = .init f
    · obtain ⟨f, rfl⟩ := hi
      exact exec_init_total f s
    · exact ⟨_, exec_of_notReady (fun f hf => hi ⟨f, hf⟩) hready⟩

/-- An action ends in a next state, or is a transfer already handed over that is never answered (R253). -/
theorem perform_total_or_silent (a : Action) (rest : List Action) (s : State) :
    (∃ t, perform a rest s = .next t) ∨
    (perform a rest s = .fault .transportSilent ∧ s.awaiting = true ∧ s.nextReply = none) := by
  cases a with
  | xfer w =>
    simp only [perform, State.performXfer]
    split
    · exact .inl ⟨_, rfl⟩
    · exact .inl ⟨_, rfl⟩
    · rename_i hreply
      split
      · exact .inr ⟨rfl, ‹_›, hreply⟩
      · exact .inl ⟨_, rfl⟩
  | setSel l => exact .inl ⟨_, rfl⟩
  | setRst l => exact .inl ⟨_, rfl⟩
  | hold => exact .inl ⟨_, rfl⟩
  | commit c => exact .inl ⟨_, rfl⟩

/-- Under the invariant a step ends in a next state, or the block waits for a transport that never answers (R253). -/
theorem step_total_or_silent {s : State} (hs : s.Inv) :
    (∃ t, step s = .next t) ∨ (step s = .fault .transportSilent ∧ s.awaiting = true ∧ s.nextReply = none) := by
  unfold step microStep
  split
  · exact perform_total_or_silent _ _ s
  · left
    split
    · exact ⟨_, rfl⟩
    · unfold acceptCommand
      split
      · exact ⟨_, rfl⟩
      · exact exec_total _ (accept_inv hs _ _)

/-- Settles O41: a step is a next state or the silence of R253, and neither is any other fault or a refusal. -/
theorem noStopButSilence : Obligations.NoStopButSilence := by
  unfold Obligations.NoStopButSilence
  intro s hs
  obtain ⟨t, hnext⟩ | ⟨hfault, hawaiting, hreply⟩ := step_total_or_silent hs
  · exact ⟨fun f hf => absurd hf (by simp [hnext]), fun r => by simp [hnext]⟩
  · refine ⟨fun f hf => ?_, fun r => by simp [hfault]⟩
    cases hfault.symm.trans hf
    exact ⟨rfl, hawaiting, hreply⟩

end Sys2Proof.Machine
end

-- ==== Proofs: the receiver takes the words of the block (20_memory.md R62 to R66) ====
section
/-! R99 keeps tags and payloads apart, so the receiver reads back from a bus word the tag and the payload that the block
put in. One lemma says so per kind of word of R101; the rules R62 to R66 are read off them. -/

namespace Sys2Proof.Machine

/-! ### Tags and payloads of a bus word (R97, R101) -/

/-- A payload below the tag leaves the tag. -/
theorem tagBits_or_setWidth {n : Nat} (hn : n ≤ 14) (tag : Word16) (v : BitVec n) :
    tagBits (tag ||| v.setWidth 16) = tagBits tag := by
  apply BitVec.eq_of_getLsbD_eq
  intro i hi
  have hout : v.getLsbD (14 + i) = false := BitVec.getLsbD_of_ge _ _ (by omega)
  simp [tagBits, hout]

/-- A word clear of the tag bits has the tag zero. -/
theorem tagBits_of_disjoint {w : Word16} (h : Disjoint16 w 0xC000) : tagBits w = 0 := by
  have hw : w &&& 0xC000 = 0 := h
  rw [← tagBits_and_mask, hw]
  rfl

/-- The payload of a frequency word behind a tag that leaves bits 13:0 free (R99 (4)). -/
theorem payload14_or_setWidth {tag : Word16} (half : HalfWord) (h : Disjoint16 tag 0x3FFF) :
    payload14 (tag ||| half.setWidth 16) = half := by
  have htag : tag.extractLsb' 0 14 = 0 := by
    have hmask : (0x3FFF : Word16).extractLsb' 0 14 = BitVec.allOnes 14 := by decide
    have hcut := congrArg (BitVec.extractLsb' 0 14) h
    rwa [BitVec.extractLsb'_and, hmask, BitVec.and_allOnes] at hcut
  apply BitVec.eq_of_getLsbD_eq
  intro i hi
  have hi16 : i < 16 := by omega
  have hbit : tag.getLsbD i = false := by simpa [hi] using congrArg (·.getLsbD i) htag
  simp only [payload14, BitVec.getLsbD_extractLsb', BitVec.getLsbD_or, BitVec.getLsbD_setWidth, Nat.zero_add, hi, hi16,
    hbit, decide_true, Bool.true_and, Bool.false_or]

theorem getLsbD_phasePayloadMask (phaseW i : Nat) :
    (phasePayloadMask phaseW).getLsbD i = (decide (i < 16) && decide (i < phaseW)) := by
  rw [phasePayloadMask, BitVec.getLsbD_ofNat, Nat.testBit_two_pow_sub_one]

/-- A phase word of `PHASE_W` bits lies in the payload of a bus word (R90, R97). -/
theorem within16_phasePayloadMask {phaseW : Nat} {v : BitVec 12} (hv : v.toNat < 2 ^ phaseW) :
    Within16 (v.setWidth 16) (phasePayloadMask phaseW) := by
  rw [within16_iff]
  intro i hi
  rw [BitVec.getLsbD_setWidth, Bool.and_eq_true, decide_eq_true_eq] at hi
  obtain ⟨hi16, hbit⟩ := hi
  have hphase : i < phaseW := by
    by_contra hge
    have hzero := Nat.testBit_lt_two_pow (hv.trans_le (Nat.pow_le_pow_right (by decide) (not_lt.1 hge)))
    exact absurd (hzero.symm.trans hbit) (by decide)
  simp [getLsbD_phasePayloadMask, hi16, hphase]

/-- The payload of a phase word behind a tag that leaves bits `PHASE_W-1:0` free (R99 (5)). -/
theorem phasePayload_or_setWidth {p : Params} {tag : Word16} {v : BitVec 12} (hv : v.toNat < 2 ^ p.phaseW)
    (h : Disjoint16 tag (phasePayloadMask p.phaseW)) : phasePayload p (tag ||| v.setWidth 16) = v := by
  have hwithin := within16_iff.1 (within16_phasePayloadMask hv)
  rw [disjoint16_iff] at h
  apply BitVec.eq_of_getLsbD_eq
  intro i hi
  have hi16 : i < 16 := by omega
  have hin := hwithin i
  have hout := h i
  simp only [phasePayload, BitVec.getLsbD_setWidth, BitVec.getLsbD_and, BitVec.getLsbD_or, hi, hi16, decide_true,
    Bool.true_and] at hin ⊢
  revert hin hout
  cases tag.getLsbD i <;> cases v.getLsbD i <;> cases (phasePayloadMask p.phaseW).getLsbD i <;> decide

section
variable {p : Params} (hp : p.Ok)
include hp

/-- The two frequency tags leave bits 13:0 to the payload (R99 (4)). -/
theorem tagFreq_disjoint (ch : Channel) : Disjoint16 (tagFreq p.layout ch) 0x3FFF := by
  obtain ⟨-, -, -, -, -, ⟨hfreq0, hfreq1, -, -⟩, -⟩ := hp
  cases ch <;> assumption

/-- The two phase tags leave bits `PHASE_W-1:0` to the payload (R99 (5)). -/
theorem tagPhase_disjoint (ch : Channel) : Disjoint16 (tagPhase p.layout ch) (phasePayloadMask p.phaseW) := by
  obtain ⟨-, -, -, -, -, ⟨-, -, hphase0, hphase1⟩, -⟩ := hp
  cases ch <;> assumption

/-- The phase register a phase word selects is the one whose tag it carries (R65, R97). -/
theorem phaseChannel_phaseBusWord (ch : Channel) {v : BitVec 12} (hv : v.toNat < 2 ^ p.phaseW) :
    phaseChannel p.layout (phaseBusWord p.layout ch v) = ch := by
  have hwithin := within16_iff.1 (within16_phasePayloadMask hv)
  have hfree0 := disjoint16_iff.1 (tagPhase_disjoint hp .ch0)
  have hfree1 := disjoint16_iff.1 (tagPhase_disjoint hp .ch1)
  obtain ⟨-, -, -, -, -, -, -, htags⟩ := hp
  have hpayload : ∀ t : Word16, ((t ||| v.setWidth 16) ^^^ p.layout.tagPhase1) &&&
      (p.layout.tagPhase0 ^^^ p.layout.tagPhase1) =
      (t ^^^ p.layout.tagPhase1) &&& (p.layout.tagPhase0 ^^^ p.layout.tagPhase1) := by
    intro t
    apply BitVec.eq_of_getLsbD_eq
    intro i _
    have hin := hwithin i
    have hout0 := hfree0 i
    have hout1 := hfree1 i
    simp only [tagPhase, BitVec.getLsbD_and, BitVec.getLsbD_xor, BitVec.getLsbD_or] at hout0 hout1 ⊢
    cases hbit : (v.setWidth 16).getLsbD i <;> simp_all
  unfold phaseChannel phaseBusWord
  rw [hpayload]
  cases ch with
  | ch0 => simpa [tagPhase, BitVec.xor_eq_zero_iff] using htags
  | ch1 => simp [tagPhase]

/-! ### `Receiver.consume`, one equation per kind of word -/

/-- A word with the tag zero is a control word (R62). -/
theorem consume_of_tagBits_zero (n : Nat) {w : Word16} (r : Receiver) (hw : tagBits w = 0) :
    r.consume p n w = r.controlWord n w := by
  obtain ⟨-, -, -, -, ⟨hctrl, -⟩, -⟩ := hp
  rw [Receiver.consume, if_pos (hw.trans hctrl.symm)]

/-- The receiver takes from a frequency word the channel and the half that the block put in (R63, R64, R101). -/
theorem consume_freqHalfWord (n : Nat) (ch : Channel) (half : HalfWord) (r : Receiver) :
    r.consume p n (freqHalfWord p.layout ch half) = r.freqHalf p.layout n ch half := by
  have hpayload : payload14 (freqHalfWord p.layout ch half) = half :=
    payload14_or_setWidth half (tagFreq_disjoint hp ch)
  have htag : tagBits (freqHalfWord p.layout ch half) = tagBits (tagFreq p.layout ch) :=
    tagBits_or_setWidth le_rfl _ half
  obtain ⟨-, -, -, -, ⟨hctrl, hfreq0, hfreq1, -, hne, -⟩, -⟩ := hp
  unfold Receiver.consume
  rw [htag, hpayload, hctrl]
  cases ch with
  | ch0 => rw [tagFreq, if_neg hfreq0, if_pos rfl]
  | ch1 => rw [tagFreq, if_neg hfreq1, if_neg hne.symm, if_pos rfl]

/-- A word with the phase tag sets a phase register, whatever its payload (R65). -/
theorem consume_phaseBusWord_eq_setPhase (n : Nat) (ch : Channel) (v : BitVec 12) (r : Receiver) :
    r.consume p n (phaseBusWord p.layout ch v) =
      r.setPhase (phaseChannel p.layout (phaseBusWord p.layout ch v))
        (phasePayload p (phaseBusWord p.layout ch v)) := by
  have htag : tagBits (phaseBusWord p.layout ch v) = tagBits (tagPhase p.layout ch) :=
    tagBits_or_setWidth (by decide) _ v
  obtain ⟨-, -, -, -, ⟨hctrl, -, -, hphase, -, hne0, hne1, heq⟩, -⟩ := hp
  have htag0 : tagBits (phaseBusWord p.layout ch v) = tagBits p.layout.tagPhase0 := by
    cases ch with
    | ch0 => exact htag
    | ch1 => exact htag.trans heq
  unfold Receiver.consume
  rw [htag0, hctrl, if_neg hphase, if_neg hne0.symm, if_neg hne1.symm]

/-- The receiver takes from a phase word the channel and the payload that the block put in (R65, R101). -/
theorem consume_phaseBusWord (n : Nat) (ch : Channel) {v : BitVec 12} (r : Receiver) (hv : v.toNat < 2 ^ p.phaseW) :
    r.consume p n (phaseBusWord p.layout ch v) = r.setPhase ch v := by
  have hpayload : phasePayload p (phaseBusWord p.layout ch v) = v :=
    phasePayload_or_setWidth hv (tagPhase_disjoint hp ch)
  rw [consume_phaseBusWord_eq_setPhase hp, phaseChannel_phaseBusWord hp ch hv, hpayload]

end

/-! ### `Receiver.freqHalf`: two-write mode and single halves -/

section
variable {l : CtrlLayout} (n : Nat) (ch : Channel) (half : HalfWord) (r : Receiver)

/-- In two-write mode the first half of a pair waits (R63). -/
theorem freqHalf_first (hmode : r.ctrl &&& l.b28 ≠ 0) (hpend : r.pend = none) :
    r.freqHalf l n ch half = { r with pend := some (ch, half) } := by
  rw [Receiver.freqHalf, if_pos hmode, Receiver.pairedHalf, hpend]

/-- In two-write mode the second half of a pair completes the register (R63). -/
theorem freqHalf_second (hmode : r.ctrl &&& l.b28 ≠ 0) {lo : HalfWord} (hpend : r.pend = some (ch, lo)) :
    r.freqHalf l n ch half = { r.setFreq ch (half ++ lo : BitVec (14 + 14)) with pend := none } := by
  rw [Receiver.freqHalf, if_pos hmode, Receiver.pairedHalf, hpend]
  exact if_pos rfl

/-- In two-write mode a half for the other channel ends the pair (R63, I18). -/
theorem freqHalf_other (hmode : r.ctrl &&& l.b28 ≠ 0) {other : Channel} {lo : HalfWord} (hother : other ≠ ch)
    (hpend : r.pend = some (other, lo)) :
    r.freqHalf l n ch half = { r with freq0 := Config.anyFreq0 n, freq1 := Config.anyFreq1 n, pend := none } := by
  rw [Receiver.freqHalf, if_pos hmode, Receiver.pairedHalf, hpend]
  exact if_neg hother

/-- Outside two-write mode a half is written alone (R64). -/
theorem freqHalf_single (hmode : r.ctrl &&& l.b28 = 0) : r.freqHalf l n ch half = r.singleHalf l ch half := by
  simp [Receiver.freqHalf, hmode]

end

/-- The two halves of a pair, one after the other, leave the word they make and no pending half (R63). -/
theorem freqHalf_freqHalf {l : CtrlLayout} (m n : Nat) (ch : Channel) (lo hi : HalfWord) {r : Receiver}
    (hmode : r.ctrl &&& l.b28 ≠ 0) (hpend : r.pend = none) :
    (r.freqHalf l m ch lo).freqHalf l n ch hi = r.setFreq ch (hi ++ lo : BitVec (14 + 14)) := by
  rw [freqHalf_first m ch lo r hmode hpend, freqHalf_second n ch hi { r with pend := some (ch, lo) } hmode rfl]
  cases ch <;> simp [Receiver.setFreq, hpend]

/-! ### The statements -/

/-- Settles O48: each word is a frequency word of its channel (`consume_freqHalfWord`), and `pend` tells the three cases
of R63 apart. -/
theorem receiverPairsHalves : Obligations.ReceiverPairsHalves := by
  unfold Obligations.ReceiverPairsHalves
  intro p m n ch lo hi r hp hmode
  have hconsume (n : Nat) (half : HalfWord) (r : Receiver) := consume_freqHalfWord hp n ch half r
  unfold freqHalfWord at hconsume
  simp only [hconsume]
  refine ⟨fun hpend => ⟨?_, ?_⟩, fun hpend => ?_, fun other hother hpend => ?_⟩
  · exact freqHalf_first m ch lo r hmode hpend
  · exact freqHalf_freqHalf m n ch lo hi hmode hpend
  · exact freqHalf_second n ch hi r hmode hpend
  · exact ⟨_, _, freqHalf_other n ch hi r hmode hother hpend⟩

/-- Settles O49: the tag and the payload of a phase word are read back (`consume_phaseBusWord`). -/
theorem receiverTakesPhase : Obligations.ReceiverTakesPhase := by
  unfold Obligations.ReceiverTakesPhase
  intro p n ch v r hp hv
  exact consume_phaseBusWord hp n ch r hv

/-- Settles O59: outside two-write mode a frequency word writes one half (`freqHalf_single`), which `HLB` chooses. -/
theorem receiverWritesOneHalf : Obligations.ReceiverWritesOneHalf := by
  unfold Obligations.ReceiverWritesOneHalf
  intro p n ch half r hp hmode
  have hsingle := (consume_freqHalfWord hp n ch half r).trans (freqHalf_single n ch half r hmode)
  unfold freqHalfWord Receiver.singleHalf at hsingle
  exact ⟨fun hhigh => hsingle.trans (if_pos hhigh), fun hlow => hsingle.trans (if_neg (not_not.2 hlow))⟩

/-- Settles O50: a control word is told by its tag; for the pulse, by the three values of `RESET_CLEARS_CTRL`. -/
theorem receiverControlAndPulse : Obligations.ReceiverControlAndPulse := by
  unfold Obligations.ReceiverControlAndPulse
  refine ⟨fun p n w r hp hw => ⟨_, ?_, consume_of_tagBits_zero hp n r hw⟩,
    fun p n r => ⟨_, rfl, fun h => ?_, fun h => ?_⟩⟩
  · exact ite_eq_or_eq _ _ _
  · rw [Receiver.ctrlAfterPulse, h]
  · rw [Receiver.ctrlAfterPulse, h]

end Sys2Proof.Machine
end

-- ==== Proofs: the device follows the shadow (20_memory.md R67) ====
section
/-! A command that ends was refused, or a transfer of it failed, or every transfer of its plan was answered `Ok`
(`runCommand_end`). A refusal changes nothing and a failure leaves R67 nothing to say. In the third case the receiver
has taken the words of the plan, one rule a word. -/

namespace Sys2Proof.Machine

/-! ### A plan run to its end -/

/-- The state that a plan leaves when each of its transfers is answered `Ok` (R225, R290). -/
def allAnsweredOk : List Action → State → State
  | [], s => s
  | .setSel l :: rest, s => allAnsweredOk rest { s with selOut := l }
  | .setRst l :: rest, s => allAnsweredOk rest (s.moveRst l)
  | .hold :: rest, s => allAnsweredOk rest s
  | .xfer w :: rest, s => allAnsweredOk rest (s.deviceTakes w)
  | .commit c :: _, s => s.commitUpdate c

/-- After the failure update of a command R67 says nothing: the block is not initialised (R126) or the device's state is
unknown (R225). -/
theorem corresponds_of_failure (s : State) (rest : List Action) (e : TErr) :
    (s.commitUpdate (failureCommit rest e)).Corresponds := by
  unfold failureCommit
  split
  · exact fun hinited _ => nomatch hinited
  · exact fun _ hdesync => nomatch hdesync

/-- A plan that ends had each transfer answered `Ok`, or ended in the failure of one (R225). -/
theorem runPlan_end {plan : List Action} {as : List (Option Reply)} {s : State} {b : CommandRun}
    (h : runPlan plan as s = some b) :
    b.state = allAnsweredOk plan s ∨ (b.result ≠ .ok ∧ b.state.Corresponds) := by
  fun_induction runPlan plan as s generalizing b with
  | case1 => cases h
  | case2 l rest as s ih => obtain ⟨b', hb', rfl⟩ := Option.map_eq_some_iff.1 h; exact (ih hb' :)
  | case3 l rest as s ih => obtain ⟨b', hb', rfl⟩ := Option.map_eq_some_iff.1 h; exact (ih hb' :)
  | case4 rest as s ih => obtain ⟨b', hb', rfl⟩ := Option.map_eq_some_iff.1 h; exact (ih hb' :)
  | case5 => cases h
  | case6 => cases h
  | case7 w rest as s ih => obtain ⟨b', hb', rfl⟩ := Option.map_eq_some_iff.1 h; exact (ih hb' :)
  | case8 w rest e as s => cases h; exact .inr ⟨nofun, corresponds_of_failure _ rest e⟩
  | case9 c rest as s => cases h; exact .inl rfl

/-! ### A command run to its end -/

/-- Accepting a command gives no result, or it is a refusal and gives one that is not `OK` (R242). -/
theorem exec_results {i : Instr} {s t : State} (h : exec i s = .next t) :
    t.results = s.results ∨ ∃ r, r ≠ .ok ∧ t.results = s.results ++ [r] := by
  obtain ⟨r, hne, -, rfl⟩ | ⟨f, -, -, rfl⟩ | ⟨-, sh, ch, w, -, rfl⟩ | ⟨-, c, w, ch, -, -, rfl⟩ |
    ⟨-, sh, mask, val, -, -, rfl⟩ | ⟨-, -, rfl⟩ := exec_next i s t h
  case inl => exact .inr ⟨r, hne, State.refuse_results s r⟩
  all_goals exact .inl rfl

/-- A command that ends was refused and changed nothing, or had a transfer fail, or its whole plan was performed with
every transfer answered `Ok`. -/
theorem runCommand_end {s : State} {cmd : CmdWord} {as : List (Option Reply)} {b : CommandRun}
    (h : runCommand s cmd as = some b) :
    (b.result ≠ .ok ∧ (b.state = s ∨ b.state.Corresponds)) ∨
    ∃ i t, decode s.params cmd = .ok i ∧ exec i { s with log := [] } = .next t ∧ t.results = [] ∧
      b.state = allAnsweredOk t.plan { t with plan := s.plan, log := s.log } := by
  unfold runCommand at h
  split at h
  · cases h
    exact .inl ⟨nofun, .inl rfl⟩
  · rename_i i hi
    split at h
    · rename_i t ht
      split at h
      · rename_i r rs hresults
        cases h
        refine .inl ⟨?_, .inl rfl⟩
        obtain hnone | ⟨r', hne, hone⟩ := exec_results ht
        · exact nomatch hnone.symm.trans hresults
        · cases hone.symm.trans hresults
          exact hne
      · rename_i hresults
        obtain hok | ⟨hfailed, hcorr⟩ := runPlan_end h
        · exact .inr ⟨i, t, hi, ht, hresults, hok⟩
        · exact .inl ⟨hfailed, .inr hcorr⟩
    · cases h
    · cases h

/-- A refusal gives a result. -/
theorem refuse_results_ne_nil (s : State) (r : Result) : (s.refuse r).results ≠ [] := by
  simp

/-- A command other than INIT that is not refused found a ready block (R244, R251). -/
theorem ready_of_not_refused {i : Instr} {s t : State} (hi : ∀ f, i ≠ .init f) (h : exec i s = .next t)
    (hresults : t.results = []) : s.Ready := by
  rw [← notReady_eq_none_iff]
  by_contra hready
  obtain ⟨r, hr⟩ := Option.ne_none_iff_exists'.1 hready
  cases (exec_of_notReady hi hr).symm.trans h
  exact refuse_results_ne_nil s r hresults

/-! ### What the device makes of the words of a plan -/

/-- A control word, taken while no half is pending, is written to CTRL; beside it only the accumulator moves (R62). -/
theorem deviceTakes_control {s : State} {w : Word16} (hp : s.params.Ok) (hw : tagBits w = 0)
    (hpend : s.receiver.pend = none) :
    (s.deviceTakes w).receiver = { s.receiver with ctrl := w, acc := Config.anyAcc s.deviceDraws } := by
  rw [State.deviceTakes_receiver, consume_of_tagBits_zero hp _ _ hw, Receiver.controlWord, hpend, ite_self]
  simp [Receiver.clockRuns, hpend]

/-- A frequency word is its high half above its low half (R102). -/
theorem highHalf_append_lowHalf (w : FreqWord) : (highHalf w ++ lowHalf w : BitVec (14 + 14)) = w := by
  apply BitVec.eq_of_getLsbD_eq
  intro i hi
  rw [BitVec.getLsbD_append]
  split
  · simp [lowHalf, *]
  · simp [highHalf, show 14 + (i - 14) = i by omega, show i - 14 < 14 by omega]

/-- In two-write mode with no half pending, the two halves of a word are written to their register (R63). -/
theorem deviceTakes_halves {s : State} (hp : s.params.Ok) (ch : Channel) (w : FreqWord)
    (hmode : s.receiver.ctrl &&& s.params.layout.b28 ≠ 0) (hpend : s.receiver.pend = none) :
    ((s.deviceTakes (freqHalfWord s.params.layout ch (lowHalf w))).deviceTakes
      (freqHalfWord s.params.layout ch (highHalf w))).receiver =
      { s.receiver.setFreq ch w with acc := Config.anyAcc (s.deviceDraws + 1) } := by
  have hfirst : (s.deviceTakes (freqHalfWord s.params.layout ch (lowHalf w))).receiver =
      { s.receiver with pend := some (ch, lowHalf w), acc := Config.anyAcc s.deviceDraws } := by
    rw [State.deviceTakes_receiver, consume_freqHalfWord hp, freqHalf_first _ _ _ _ hmode hpend]
    rfl
  have hsecond := freqHalf_second (s.deviceDraws + 1) ch (highHalf w)
    { s.receiver with pend := some (ch, lowHalf w), acc := Config.anyAcc s.deviceDraws } hmode rfl
  rw [highHalf_append_lowHalf] at hsecond
  rw [State.deviceTakes_receiver, hfirst, State.deviceTakes_params, State.deviceTakes_deviceDraws,
    consume_freqHalfWord hp, hsecond]
  cases ch <;> simp [Receiver.setFreq, Receiver.clockRuns, hpend]

/-- The bit `B28` ORed into a control word leaves a control word (R99 (1)), and one in two-write mode (R63). -/
theorem orB28_control {p : Params} {sh : Word16} (hp : p.Ok) (hsh : tagBits sh = 0) :
    tagBits (sh ||| p.layout.b28) = 0 ∧ (sh ||| p.layout.b28) &&& p.layout.b28 ≠ 0 := by
  obtain ⟨-, -, ⟨-, -, -, htag⟩, -, -, -, hb28, -⟩ := hp
  constructor
  · rw [tagBits, BitVec.extractLsb'_or]
    exact (congrArg₂ (· ||| ·) hsh (tagBits_of_disjoint htag)).trans BitVec.or_zero
  · rwa [show (sh ||| p.layout.b28) &&& p.layout.b28 = p.layout.b28 by ext; simp +contextual]

/-- A frequency write leaves the word in its register and the shadow in CTRL; of the rest only the accumulator moves
(R67, R145). -/
theorem receiver_of_freqWrite {s : State} {sh : Word16} (hp : s.params.Ok) (hsh : tagBits sh = 0)
    (hpend : s.receiver.pend = none) (ch : Channel) (w : FreqWord) :
    (allAnsweredOk (freqWritePlan s.params sh ch w) s).receiver =
      { s.receiver.setFreq ch w with ctrl := sh, acc := Config.anyAcc (s.deviceDraws + 3) } := by
  obtain ⟨htag, hmode⟩ := orB28_control hp hsh
  set s₁ := s.deviceTakes (sh ||| s.params.layout.b28)
  set s₃ := (s₁.deviceTakes (freqHalfWord s.params.layout ch (lowHalf w))).deviceTakes
    (freqHalfWord s.params.layout ch (highHalf w))
  have h₁ : s₁.receiver = { s.receiver with
      ctrl := sh ||| s.params.layout.b28, acc := Config.anyAcc s.deviceDraws } := deviceTakes_control hp htag hpend
  have h₃ : s₃.receiver = { s₁.receiver.setFreq ch w with acc := Config.anyAcc (s₁.deviceDraws + 1) } :=
    deviceTakes_halves (s := s₁) hp ch w (h₁ ▸ hmode) (h₁ ▸ hpend)
  have hpend₃ : s₃.receiver.pend = none := by rw [h₃, h₁]; simpa using hpend
  calc (allAnsweredOk (freqWritePlan s.params sh ch w) s).receiver
      = (s₃.deviceTakes sh).receiver := rfl
    _ = { s₃.receiver with ctrl := sh, acc := Config.anyAcc s₃.deviceDraws } :=
        deviceTakes_control (s := s₃) hp hsh hpend₃
    _ = _ := by rw [h₃, h₁]; cases ch <;> rfl

/-- A reset-line pulse drops the pending half and keeps CTRL under `RESET_CLEARS_CTRL = unchanged` (R66). -/
theorem receiver_of_pulse (s : State) :
    let r := ((s.moveRst s.params.rstActive).moveRst (!s.params.rstActive)).receiver
    r.pend = none ∧ (s.params.resetClearsCtrl = .unchanged → r.ctrl = s.receiver.ctrl) := by
  have hassert : s.moveRst s.params.rstActive = { s with rstOut := s.params.rstActive } := by
    simp [State.moveRst, State.pulseEnds]
  have hrelease : (({ s with rstOut := s.params.rstActive } : State).moveRst (!s.params.rstActive)).receiver =
      s.receiver.pulse s.params s.deviceDraws := by
    simp [State.moveRst, State.pulseEnds]
  intro r
  have hr : r = s.receiver.pulse s.params s.deviceDraws := by
    rw [← hrelease, ← hassert]
  exact hr ▸ ⟨rfl, fun h => by simp [Receiver.ctrlAfterPulse, h]⟩

/-! ### The correspondence after each kind of plan (R67) -/

/-- A ready block that corresponds holds CTRL as its shadow. -/
theorem State.Corresponds.of_ready {s : State} {sh : Word16} (hc : s.Corresponds) (hready : s.Ready)
    (hshadow : s.shadow = some sh) : s.receiver.ctrl = sh ∧ s.receiver.pend = none := by
  obtain ⟨hctrl, hpend⟩ := hc hready.1 hready.2
  exact ⟨Option.some.inj (hctrl.symm.trans hshadow), hpend⟩

/-- The shadow of a ready block is a control word (R30). -/
theorem tagBits_shadow {s : State} {sh : Word16} (hs : s.ShadowOk) (hinited : s.inited = true)
    (hshadow : s.shadow = some sh) : tagBits sh = 0 := by
  obtain ⟨sh', hshadow', htag, -⟩ := hs hinited
  cases hshadow.symm.trans hshadow'
  exact htag

theorem corresponds_init {s : State} (hp : s.params.Ok) (f : BitVec 32) :
    (allAnsweredOk (initPlan s.params f) s).Corresponds := by
  intro _ _
  have ⟨_, ⟨htag, _⟩, _⟩ := hp
  set u := (s.moveRst s.params.rstActive).moveRst (!s.params.rstActive)
  have hu : u.params = s.params := by simp [u]
  have htakes : (u.deviceTakes s.params.initControlWord).receiver =
      { u.receiver with ctrl := s.params.initControlWord, acc := Config.anyAcc u.deviceDraws } :=
    deviceTakes_control (hu ▸ hp) htag (receiver_of_pulse s).1
  have hreceiver : (allAnsweredOk (initPlan s.params f) s).receiver =
      (u.deviceTakes s.params.initControlWord).receiver := rfl
  have hshadow : (allAnsweredOk (initPlan s.params f) s).shadow = some u.params.initControlWord := rfl
  rw [hreceiver, htakes, hshadow, hu]
  exact ⟨rfl, (receiver_of_pulse s).1⟩

theorem corresponds_freqWrite {s : State} {sh : Word16} (hp : s.params.Ok) (hs : s.ShadowOk) (hc : s.Corresponds)
    (hready : s.Ready) (hshadow : s.shadow = some sh) (ch : Channel) (w : FreqWord) :
    (allAnsweredOk (freqWritePlan s.params sh ch w) s).Corresponds := by
  intro _ _
  obtain ⟨-, hpend⟩ := hc.of_ready hready hshadow
  rw [receiver_of_freqWrite hp (tagBits_shadow hs hready.1 hshadow) hpend]
  exact ⟨hshadow, (Receiver.setFreq_pend _ ch w).trans hpend⟩

/-- A phase word leaves CTRL and the pending half (R65). -/
theorem corresponds_phaseWrite {s : State} (hp : s.params.Ok) (hc : s.Corresponds) (hready : s.Ready) (ch : Channel)
    (v : BitVec 12) :
    (allAnsweredOk (oneWritePlan s.params (phaseBusWord s.params.layout ch v)) s).Corresponds := by
  intro _ _
  have hreceiver : (allAnsweredOk (oneWritePlan s.params (phaseBusWord s.params.layout ch v)) s).receiver =
      (s.deviceTakes (phaseBusWord s.params.layout ch v)).receiver := rfl
  rw [hreceiver, State.deviceTakes_receiver, consume_phaseBusWord_eq_setPhase hp, Receiver.clockRuns_ctrl,
    Receiver.setPhase_ctrl, Receiver.clockRuns_pend, Receiver.setPhase_pend]
  exact hc hready.1 hready.2

/-- A field write sends the new shadow, so CTRL follows it (R190). -/
theorem corresponds_fieldWrite {s : State} {sh mask val : Word16} (hp : s.params.Ok) (hs : s.ShadowOk)
    (hc : s.Corresponds) (hready : s.Ready) (hshadow : s.shadow = some sh) (hfield : FieldOk s.params.layout mask val) :
    (allAnsweredOk (oneWritePlan s.params (insertField sh mask val))
      { s with shadow := some (insertField sh mask val) }).Corresponds := by
  intro _ _
  obtain ⟨-, hpend⟩ := hc.of_ready hready hshadow
  have htag : tagBits (insertField sh mask val) = 0 :=
    tagBits_shadow (shadowOk_insertField hs hshadow hfield) hready.1 rfl
  have hreceiver : (allAnsweredOk (oneWritePlan s.params (insertField sh mask val))
      { s with shadow := some (insertField sh mask val) }).receiver =
      (s.deviceTakes (insertField sh mask val)).receiver := rfl
  rw [hreceiver, deviceTakes_control hp htag hpend]
  exact ⟨rfl, hpend⟩

/-- A pulse leaves CTRL under `RESET_CLEARS_CTRL = unchanged` (R66, R221). -/
theorem corresponds_reset {s : State} (hclears : s.params.resetClearsCtrl = .unchanged) (hc : s.Corresponds)
    (hready : s.Ready) : (allAnsweredOk (resetPlan s.params) s).Corresponds := by
  intro _ _
  obtain ⟨hpend, hctrl⟩ := receiver_of_pulse s
  have hshadow : (allAnsweredOk (resetPlan s.params) s).shadow = s.shadow := by
    simp [resetPlan, resetPulse, allAnsweredOk, State.commitUpdate]
  rw [hshadow]
  refine ⟨(hc hready.1 hready.2).1.trans ?_, hpend⟩
  exact congrArg some (hctrl hclears).symm

/-- Settles O46: a command that ends was refused or failed, or the device has taken its whole plan; the cases are the
five kinds of plan. -/
theorem correspondenceKept : Obligations.CorrespondenceKept := by
  unfold Obligations.CorrespondenceKept
  intro s cmd as b hs _ hclears hc h
  have ⟨hp, hshadowOk, _⟩ := hs
  obtain ⟨-, hsame | hcorr⟩ | ⟨i, t, -, hexec, hresults, hstate⟩ := runCommand_end h
  · exact hsame ▸ hc
  · exact hcorr
  rw [hstate]
  obtain ⟨r, -, -, rfl⟩ | ⟨f, -, -, rfl⟩ | ⟨hready, sh, ch, w, hshadow, rfl⟩ | ⟨hready, c, w, ch, -, -, rfl⟩ |
    ⟨hready, sh, mask, val, hshadow, hfield, rfl⟩ | ⟨hready, -, rfl⟩ := exec_next i _ t hexec
  · exact absurd hresults (refuse_results_ne_nil _ r)
  · exact corresponds_init hp f
  · exact corresponds_freqWrite hp hshadowOk hc hready hshadow ch w
  · exact corresponds_phaseWrite hp hc hready c w
  · exact corresponds_fieldWrite (s := s) hp hshadowOk hc hready hshadow (fieldWritten_ok hp.2.2 hfield)
  · exact corresponds_reset hclears hc hready

/-! ### What a command leaves in the device (R67, second sentence) -/

/-- SET_FREQUENCY_WORD on a channel of a ready block: out of range, or its plan (R155). -/
theorem exec_setFrequencyWord_next {s t : State} {ch : BitVec 8} {c : Channel} {raw : BitVec 48} (hready : s.Ready)
    (hch : channelOf ch = some c) (h : exec (.setFrequencyWord ch raw) s = .next t) :
    t = s.refuse .frequencyOutOfRange ∨
    raw.toNat < 2 ^ 28 ∧ ∃ sh, s.shadow = some sh ∧
      t = { s with plan := freqWritePlan s.params sh c (raw.setWidth 28) } := by
  simp only [exec, execSetFrequencyWord, (notReady_eq_none_iff s).2 hready, hch] at h
  split at h
  · cases h; exact .inl rfl
  · exact .inr ⟨by omega, startFreqWrite_next _ _ _ _ h⟩

/-- SET_FREQUENCY on a channel of a ready block: out of range, or the plan of its scaled word (R150). -/
theorem exec_setFrequency_next {s t : State} {ch : BitVec 8} {c : Channel} {q : BitVec 48} {r : BitVec 32}
    (hready : s.Ready) (hch : channelOf ch = some c) (hclock : s.refHz = some r)
    (h : exec (.setFrequency ch q) s = .next t) :
    t = s.refuse .frequencyOutOfRange ∨
    scaleHz s.params.freqFrac q.toInt.toNat r.toNat < 2 ^ 28 ∧ ∃ sh, s.shadow = some sh ∧
      t = { s with
        plan := freqWritePlan s.params sh c (BitVec.ofNat 28 (scaleHz s.params.freqFrac q.toInt.toNat r.toNat)) } := by
  simp only [exec, execSetFrequency, (notReady_eq_none_iff s).2 hready, hch, setScaledFrequency, hclock] at h
  split at h
  · cases h; exact .inl rfl
  · split at h
    · cases h
    · split at h
      · cases h; exact .inl rfl
      · exact .inr ⟨by omega, startFreqWrite_next _ _ _ _ h⟩

/-- SET_PHASE_WORD on a channel of a ready block sets its plan (R181). -/
theorem exec_setPhaseWord_next {s t : State} {ch : BitVec 8} {c : Channel} {w : BitVec 12} (hready : s.Ready)
    (hch : channelOf ch = some c) (h : exec (.setPhaseWord ch w) s = .next t) :
    t = { s with plan := oneWritePlan s.params (phaseBusWord s.params.layout c w) } := by
  simp only [exec, execSetPhaseWord, (notReady_eq_none_iff s).2 hready, hch] at h
  cases h
  rfl

theorem requireZero_eq_ok {ok : Bool} {v i : Instr} : requireZero ok v = .ok i ↔ ok = true ∧ v = i := by
  cases ok <;> simp [requireZero]

/-- A phase word that decodes has `PHASE_W` bits (R90). -/
theorem phase_lt_of_decode {p : Params} {cmd : CmdWord} {ch : BitVec 8} {w : BitVec 12}
    (h : decode p cmd = .ok (.setPhaseWord ch w)) : w.toNat < 2 ^ p.phaseW := by
  unfold decode at h
  split at h
  case h_4 =>
    obtain ⟨hzero, hw⟩ := requireZero_eq_ok.1 h
    cases hw
    simp only [Bool.and_eq_true, decide_eq_true_eq] at hzero
    obtain ⟨⟨-, hphase⟩, -⟩ := hzero
    rw [BitVec.toNat_setWidth]
    exact (Nat.mod_le _ _).trans_lt hphase
  case h_2 =>
    unfold decodeSetFrequency at h
    split at h
    · cases h
    · split at h <;> cases h
  case h_10 => cases h
  all_goals exact nomatch (requireZero_eq_ok.1 h).2

/-- A frequency write of a ready block that corresponds changes one frequency register of the device (R67). -/
theorem receiver_of_freqWrite_of_corresponds {s : State} {sh : Word16} (hs : s.Inv) (hc : s.Corresponds)
    (hready : s.Ready) (hshadow : s.shadow = some sh) (ch : Channel) (w : FreqWord) :
    let r := (allAnsweredOk (freqWritePlan s.params sh ch w) s).receiver
    r = { s.receiver.setFreq ch w with acc := r.acc } := by
  obtain ⟨hp, hshadowOk, -⟩ := hs
  obtain ⟨hctrl, hpend⟩ := hc.of_ready hready hshadow
  intro r
  have hr : r = { s.receiver.setFreq ch w with ctrl := sh, acc := Config.anyAcc (s.deviceDraws + 3) } :=
    receiver_of_freqWrite hp (tagBits_shadow hshadowOk hready.1 hshadow) hpend ch w
  rw [hr, ← hctrl, ← Receiver.setFreq_ctrl s.receiver ch w]

/-- Settles O47: a command that ends in `OK` ran its whole plan (`runCommand_end`), which is the frequency write or the
one phase word of its operands. -/
theorem okWriteReachesDevice : Obligations.OkWriteReachesDevice := by
  unfold Obligations.OkWriteReachesDevice
  intro s cmd as b ch c hs _ hc hch h hok
  obtain ⟨hfailed, -⟩ | ⟨i, t, hi, hexec, hresults, hstate⟩ := runCommand_end h
  · exact absurd hok hfailed
  rw [hstate]
  refine ⟨fun raw hdecode => ?_, fun q r hdecode hclock => ?_, fun w hdecode => ?_⟩
  all_goals
    cases hi.symm.trans hdecode
    have hready : ({ s with log := [] } : State).Ready := ready_of_not_refused (by simp) hexec hresults
  · obtain rfl | ⟨hlt, sh, hshadow, rfl⟩ := exec_setFrequencyWord_next hready hch hexec
    · exact absurd hresults (refuse_results_ne_nil _ _)
    · exact ⟨receiver_of_freqWrite_of_corresponds (s := s) hs hc hready hshadow c _, hlt⟩
  · obtain rfl | ⟨hlt, sh, hshadow, rfl⟩ := exec_setFrequency_next hready hch hclock hexec
    · exact absurd hresults (refuse_results_ne_nil _ _)
    · exact ⟨receiver_of_freqWrite_of_corresponds (s := s) hs hc hready hshadow c _, hlt⟩
  · cases exec_setPhaseWord_next hready hch hexec
    obtain ⟨hp, -⟩ := hs
    have hreceiver : (allAnsweredOk (oneWritePlan s.params (phaseBusWord s.params.layout c w)) s).receiver =
        (s.receiver.setPhase c w).clockRuns s.deviceDraws :=
      congrArg (·.clockRuns s.deviceDraws) (consume_phaseBusWord hp _ c s.receiver (phase_lt_of_decode hdecode))
    exact hreceiver.trans (by rw [hreceiver]; rfl)

end Sys2Proof.Machine
end

-- ==== Proofs: the ports and the receiver stand beside a step (20_memory.md R58 to R60) ====
section
/-! A step reads the port only to take its first command, and never reads the receiver. So a change of what stands there
passes through the step: for the port the same change, for the receiver a change to what the device makes of it. -/

namespace Sys2Proof.Machine

/-! ### What a step adds to the log (R58) -/

/-- `t` has the log of `s` and at most `n` items more, none of them a command. -/
def State.Logs (s : State) (n : Nat) (t : State) : Prop :=
  ∃ added, t.log = s.log ++ added ∧ added.length ≤ n ∧ ∀ c, .command c ∉ added

/-- Items that are no commands leave the commands accepted so far. -/
theorem State.Logs.commands_eq {s t : State} {n : Nat} (h : s.Logs n t) : t.commands = s.commands := by
  obtain ⟨added, hlog, -, hnone⟩ := h
  unfold State.commands
  rw [hlog, List.filterMap_append, List.append_right_eq_self, List.filterMap_eq_nil_iff]
  intro x hx
  cases x with
  | command c => exact absurd hx (hnone c)
  | event e => rfl
  | answer r => rfl
  | result r => rfl

/-- A word is recorded when it is handed over, once (R290). -/
theorem State.handOver_log (s : State) (w : Word16) :
    (s.handOver w).log = s.log ++ if s.awaiting then [] else [.event (.xfer w)] := by
  cases hawaiting : s.awaiting with
  | false => rw [State.handOver_log_of_idle s w hawaiting]; rfl
  | true => rw [State.handOver_of_awaiting s w hawaiting]; simp

/-- An action logs its event, its answer or its result; only a transfer can log two items. -/
theorem perform_logs {a : Action} {rest : List Action} {s t : State} (h : perform a rest s = .next t) : s.Logs 2 t := by
  cases a with
  | setSel l => cases h; exact ⟨_, rfl, by simp, by simp⟩
  | setRst l => cases h; exact ⟨_, State.performSetRst_log s l rest, by simp, by simp⟩
  | hold => cases h; exact ⟨_, rfl, by simp, by simp⟩
  | commit c => cases h; exact ⟨_, State.performCommit_log s c rest, by simp, by simp⟩
  | xfer w =>
    obtain ⟨-, rfl⟩ | ⟨e, -, rfl⟩ | ⟨-, -, rfl⟩ := performXfer_next s t w rest h
    · refine ⟨_, by rw [State.answeredOk_log, State.takeReply_log, State.handOver_log, List.append_assoc], ?_, ?_⟩ <;>
        split <;> simp
    · refine ⟨_, by rw [State.answeredErr_log, State.takeReply_log, State.handOver_log, List.append_assoc], ?_, ?_⟩ <;>
        split <;> simp
    · refine ⟨_, State.handOver_log s w, ?_, ?_⟩ <;> split <;> simp

/-- Accepting a command logs at most its refusal. -/
theorem exec_logs {i : Instr} {s t : State} (h : exec i s = .next t) : s.Logs 1 t := by
  obtain ⟨r, -, -, rfl⟩ | ⟨f, -, -, rfl⟩ | ⟨-, sh, ch, w, -, rfl⟩ | ⟨-, c, w, ch, -, -, rfl⟩ |
    ⟨-, sh, mask, val, -, -, rfl⟩ | ⟨-, -, rfl⟩ := exec_next i s t h
  case inl => exact ⟨_, State.refuse_log s r, by simp, by simp⟩
  all_goals exact ⟨[], (List.append_nil _).symm, by simp, by simp⟩

/-- Settles O9: an action logs at most two items, and accepting a command logs the command and at most one item more. -/
theorem logOnlyGrows : Obligations.LogOnlyGrows := by
  unfold Obligations.LogOnlyGrows
  intro s t h
  obtain ⟨a, rest, -, hperform⟩ | ⟨-, -, rfl⟩ | ⟨cmd, ps, -, -, -, rfl⟩ | ⟨cmd, ps, i, -, -, -, hexec⟩ :=
    step_next s t h
  · obtain ⟨added, hlog, hlen, -⟩ := perform_logs hperform
    exact ⟨added, hlog, hlen⟩
  · exact ⟨[], by simp, by simp⟩
  · exact ⟨_, by rw [State.refuse_log, State.accept_log, List.append_assoc], by simp⟩
  · obtain ⟨added, hlog, hlen, -⟩ := exec_logs hexec
    refine ⟨.command cmd :: added, ?_, Nat.succ_le_succ hlen⟩
    rw [hlog, State.accept_log, List.append_assoc, List.singleton_append]

/-! ### Changing the port and the receiver -/

/-- `s` with its port and its receiver changed by `f` and `g`. -/
def State.mapOutside (f : List CmdWord → List CmdWord) (g : Receiver → Receiver) (s : State) : State :=
  { s with port := f s.port, receiver := g s.receiver }

/-- The outcome `o` with its next state, where there is one, changed by `f`. -/
def mapNext (f : State → State) : Host.Outcome State Fault Refusal → Host.Outcome State Fault Refusal
  | .next s => .next (f s)
  | .fault r => .fault r
  | .refused r => .refused r

section
variable (f : List CmdWord → List CmdWord) (g : Receiver → Receiver) (s : State)

theorem startFreqWrite_mapOutside (c : Channel) (w : FreqWord) :
    (s.mapOutside f g).startFreqWrite c w = mapNext (State.mapOutside f g) (s.startFreqWrite c w) := by
  simp only [State.startFreqWrite, State.mapOutside]
  split <;> rfl

theorem fieldSet_mapOutside (mask val : Word16) :
    (s.mapOutside f g).fieldSet mask val = mapNext (State.mapOutside f g) (s.fieldSet mask val) := by
  simp only [State.fieldSet, State.mapOutside]
  split <;> rfl

theorem setScaledFrequency_mapOutside (c : Channel) (q : BitVec 48) :
    setScaledFrequency c q (s.mapOutside f g) = mapNext (State.mapOutside f g) (setScaledFrequency c q s) := by
  have hclock : (s.mapOutside f g).refHz = s.refHz := rfl
  have hparams : (s.mapOutside f g).params = s.params := rfl
  simp only [setScaledFrequency, hclock, hparams, startFreqWrite_mapOutside]
  repeat' split
  all_goals rfl

/-- The meaning of a command reads neither the port nor the receiver, and writes neither (R60, R290). -/
theorem exec_mapOutside (i : Instr) :
    exec i (s.mapOutside f g) = mapNext (State.mapOutside f g) (exec i s) := by
  have hready : (s.mapOutside f g).notReady = s.notReady := rfl
  have hparams : (s.mapOutside f g).params = s.params := rfl
  cases i with
  | init clock =>
    simp only [exec, execInit]
    split <;> rfl
  | setFrequency ch q =>
    simp only [exec, execSetFrequency, hready, setScaledFrequency_mapOutside]
    repeat' split
    all_goals rfl
  | setFrequencyWord ch raw =>
    simp only [exec, execSetFrequencyWord, hready, startFreqWrite_mapOutside]
    repeat' split
    all_goals rfl
  | setPhaseWord ch w =>
    simp only [exec, execSetPhaseWord, hready]
    repeat' split
    all_goals rfl
  | setSignOutput c =>
    simp only [exec, execSetSignOutput, hready, hparams, fieldSet_mapOutside]
    split <;> rfl
  | setOutputMode m =>
    simp only [exec, execSetOutputMode, hready, hparams, fieldSet_mapOutside]
    split <;> rfl
  | setSleep z =>
    simp only [exec, execSetSleep, hready, hparams, fieldSet_mapOutside]
    split <;> rfl
  | setOutputWave k =>
    simp only [exec, execSetOutputWave, hready, hparams, fieldSet_mapOutside]
    repeat' split
    all_goals rfl
  | reset =>
    simp only [exec, execReset, hready]
    split <;> rfl

/-- Nor does accepting the command word at the head of the port read what stands behind it (R81). -/
theorem acceptCommand_mapOutside (cmd : CmdWord) (ps : List CmdWord) :
    acceptCommand cmd (f ps) (s.mapOutside f g) = mapNext (State.mapOutside f g) (acceptCommand cmd ps s) := by
  have haccept : (s.mapOutside f g).accept cmd (f ps) = (s.accept cmd ps).mapOutside f g := rfl
  have hparams : (s.mapOutside f g).params = s.params := rfl
  simp only [acceptCommand, haccept, hparams, exec_mapOutside]
  split <;> rfl

theorem handOver_mapOutside (w : Word16) : (s.mapOutside f g).handOver w = (s.handOver w).mapOutside f g := by
  cases hawaiting : s.awaiting <;> simp [State.handOver, State.mapOutside, hawaiting]

theorem takeReply_mapOutside : (s.mapOutside f g).takeReply = s.takeReply.mapOutside f g := by
  simp only [State.takeReply, State.mapOutside]
  split <;> rfl

theorem moveRst_mapPort (l : Bool) : (s.mapOutside f id).moveRst l = (s.moveRst l).mapOutside f id := by
  have hends : (s.mapOutside f id).pulseEnds l = s.pulseEnds l := rfl
  simp only [State.moveRst, hends, apply_ite (State.mapOutside f id)]
  rfl

/-- A pulse that the receiver sees turns one receiver into another (R66). -/
theorem moveRst_mapReceiver (l : Bool) : ∃ g', (s.mapOutside id g).moveRst l = (s.moveRst l).mapOutside id g' := by
  have hends : (s.mapOutside id g).pulseEnds l = s.pulseEnds l := rfl
  cases hpulse : s.pulseEnds l with
  | false => exact ⟨g, by simp only [State.moveRst, hends, hpulse, Bool.false_eq_true, if_false]; rfl⟩
  | true =>
    refine ⟨fun _ => (g s.receiver).pulse s.params s.deviceDraws, ?_⟩
    simp only [State.moveRst, hends, hpulse, if_true]
    rfl

/-- An action does not read the port, and leaves it (R59). -/
theorem perform_mapPort (a : Action) (rest : List Action) :
    perform a rest (s.mapOutside f id) = mapNext (State.mapOutside f id) (perform a rest s) := by
  cases a with
  | setSel l => rfl
  | setRst l =>
    simp only [perform, State.performSetRst, moveRst_mapPort]
    rfl
  | hold => rfl
  | xfer w =>
    have hreply : (s.mapOutside f id).nextReply = s.nextReply := rfl
    have hawaiting : (s.mapOutside f id).awaiting = s.awaiting := rfl
    simp only [perform, State.performXfer, hreply, hawaiting, handOver_mapOutside, takeReply_mapOutside]
    repeat' split
    all_goals rfl
  | commit c => cases c <;> rfl

/-- An action does not read the receiver: with another one it does the same, but for what the device makes of it
(R60). -/
theorem perform_mapReceiver (a : Action) (rest : List Action) :
    ∃ g', perform a rest (s.mapOutside id g) = mapNext (State.mapOutside id g') (perform a rest s) := by
  cases a with
  | setSel l => exact ⟨g, rfl⟩
  | setRst l =>
    obtain ⟨g', hmove⟩ := moveRst_mapReceiver g s l
    simp only [perform, State.performSetRst, hmove]
    exact ⟨g', rfl⟩
  | hold => exact ⟨g, rfl⟩
  | xfer w =>
    have hreply : (s.mapOutside id g).nextReply = s.nextReply := rfl
    have hawaiting : (s.mapOutside id g).awaiting = s.awaiting := rfl
    simp only [perform, State.performXfer, hreply, hawaiting, handOver_mapOutside, takeReply_mapOutside]
    split
    · exact ⟨fun _ => ((s.handOver w).takeReply.mapOutside id g |>.deviceTakes w).receiver, rfl⟩
    · exact ⟨id, rfl⟩
    · split
      · exact ⟨g, rfl⟩
      · exact ⟨g, rfl⟩
  | commit c => cases c <;> exact ⟨g, rfl⟩

end

/-- A step of a busy block performs the action at the head of its plan (R290). -/
theorem step_of_busy {s : State} {a : Action} {rest : List Action} (h : s.plan = a :: rest) :
    step s = perform a rest s := by
  simp only [step, microStep, h]

/-- A step of an idle block with a command at its port accepts it (R290). -/
theorem step_of_presented {s : State} {cmd : CmdWord} {ps : List CmdWord} (hidle : s.plan = [])
    (h : s.port = cmd :: ps) : step s = acceptCommand cmd ps s := by
  simp only [step, microStep, hidle, h]

/-- A step of an idle block with an empty port waits (R280, R292). -/
theorem step_of_waiting {s : State} (hidle : s.plan = []) (h : s.port = []) : step s = .next s := by
  simp only [step, microStep, hidle, h]

/-! ### The statements -/

/-- An action leaves the port: what the port held before is what it holds after (R59). -/
theorem perform_port {a : Action} {rest : List Action} {s t : State} (h : perform a rest s = .next t) :
    t.port = s.port := by
  have hsame : s.mapOutside (fun _ => s.port) id = s := rfl
  have hmap := perform_mapPort (fun _ => s.port) s a rest
  rw [hsame, h] at hmap
  have hport : t = t.mapOutside (fun _ => s.port) id := Host.Outcome.next.inj hmap
  exact (congrArg State.port hport :)

/-- A command presented behind a step passes through it (R59, R81). -/
theorem step_present {s : State} (c : CmdWord) (h : s.plan ≠ [] ∨ s.port ≠ []) :
    step (s.present c) = mapNext (·.present c) (step s) := by
  cases hplan : s.plan with
  | cons a rest =>
    rw [step_of_busy hplan, step_of_busy (s := s.present c) hplan]
    exact perform_mapPort (· ++ [c]) s a rest
  | nil =>
    obtain ⟨cmd, ps, hport⟩ := List.exists_cons_of_ne_nil (h.resolve_left (absurd hplan))
    have hport' : (s.present c).port = cmd :: (ps ++ [c]) := by rw [State.present_port, hport, List.cons_append]
    rw [step_of_presented hplan hport, step_of_presented (s := s.present c) hplan hport']
    exact acceptCommand_mapOutside (· ++ [c]) id s cmd ps

/-- Settles O8: an action neither takes from the port (`perform_port`) nor logs a command (`perform_logs`), and a presented
command passes through a step (`step_present`). -/
theorem busyBlockHoldsCommands : Obligations.BusyBlockHoldsCommands := by
  unfold Obligations.BusyBlockHoldsCommands
  refine ⟨fun s t hbusy h => ?_, fun s t c hwork h => ?_⟩
  · obtain ⟨a, rest, hplan⟩ := List.exists_cons_of_ne_nil hbusy
    rw [step_of_busy hplan] at h
    exact ⟨perform_port h, (perform_logs h).commands_eq⟩
  · rw [step_present c hwork, h]
    rfl

/-- With another receiver a step does the same, but for the receiver (R60). -/
theorem step_mapReceiver (s : State) (g : Receiver → Receiver) :
    ∃ g', step (s.mapOutside id g) = mapNext (State.mapOutside id g') (step s) := by
  cases hplan : s.plan with
  | cons a rest =>
    rw [step_of_busy hplan, step_of_busy (s := s.mapOutside id g) hplan]
    exact perform_mapReceiver g s a rest
  | nil =>
    cases hport : s.port with
    | cons cmd ps =>
      rw [step_of_presented hplan hport, step_of_presented (s := s.mapOutside id g) hplan hport]
      exact ⟨g, acceptCommand_mapOutside id g s cmd ps⟩
    | nil =>
      rw [step_of_waiting hplan hport, step_of_waiting (s := s.mapOutside id g) hplan hport]
      exact ⟨g, rfl⟩

/-- Settles O11: the outcome with the other receiver is the outcome of the step, its receiver changed
(`step_mapReceiver`). -/
theorem blockNeverReadsReceiver : Obligations.BlockNeverReadsReceiver := by
  unfold Obligations.BlockNeverReadsReceiver
  intro s r
  obtain ⟨g, hstep⟩ := step_mapReceiver s fun _ => r
  refine ⟨fun t h => ⟨g t.receiver, ?_⟩, fun f h => ?_⟩
  · exact hstep.trans (congrArg _ h)
  · exact hstep.trans (congrArg _ h)

end Sys2Proof.Machine
end

-- ==== Proofs: a command word is told by its fields (30_encoding.md R82, R83, R107) ====
section
/-! The encoder writes the fields of R82, and the decoder reads them: a word decodes to a command exactly when the
command is well formed and the word carries its fields. Both round trips of R107 are readings of that one equivalence. -/

namespace Sys2Proof.Machine

open Sys2Proof.Laws

/-! ### A command word and its fields (R82) -/

/-- A command word is its four fields, one behind the other. -/
theorem append_fields (w : CmdWord) : (w.op ++ w.sel ++ w.rsv ++ w.data : BitVec (4 + 8 + 4 + 48)) = w := by
  unfold CmdWord.op CmdWord.sel CmdWord.rsv CmdWord.data
  rw [BitVec.extractLsb'_append_extractLsb'_eq_extractLsb' (by rfl : 60 = 52 + 8),
    BitVec.extractLsb'_append_extractLsb'_eq_extractLsb' (by rfl : 52 = 48 + 4),
    BitVec.extractLsb'_append_extractLsb'_eq_extractLsb' (by rfl : 48 = 0 + 48)]
  exact BitVec.extractLsb'_eq_self

theorem fields_ext_iff {v w : CmdWord} :
    v = w ↔ v.op = w.op ∧ v.sel = w.sel ∧ v.rsv = w.rsv ∧ v.data = w.data := by
  refine ⟨fun h => h ▸ ⟨rfl, rfl, rfl, rfl⟩, fun ⟨hop, hsel, hrsv, hdata⟩ => ?_⟩
  rw [← append_fields v, ← append_fields w, hop, hsel, hrsv, hdata]

theorem make_eq_iff {op : BitVec 4} {sel : BitVec 8} {data : BitVec 48} {w : CmdWord} :
    CmdWord.make op sel data = w ↔ HasFields w op sel data := by
  rw [eq_comm, fields_ext_iff, op_make, sel_make, rsv_make, data_make, HasFields]

/-! ### The fields of a command (R83) -/

/-- The field `sel` of a command (R83). -/
def selField : Instr → BitVec 8
  | .init _ => 0
  | .setFrequency ch _ => ch
  | .setFrequencyWord ch _ => ch
  | .setPhaseWord ch _ => ch
  | .setSignOutput c => (bitsOfSign c).setWidth 8
  | .setOutputMode m => (bitsOfMode m).setWidth 8
  | .setSleep z => (bitsOfSleep z).setWidth 8
  | .setOutputWave k => k
  | .reset => 0

/-- The field `data` of a command (R83). -/
def dataField : Instr → BitVec 48
  | .init f => f.setWidth 48
  | .setFrequency _ q => q
  | .setFrequencyWord _ raw => raw
  | .setPhaseWord _ w => w.setWidth 48
  | .setSignOutput _ => 0
  | .setOutputMode _ => 0
  | .setSleep _ => 0
  | .setOutputWave _ => 0
  | .reset => 0

theorem encode_eq_make (i : Instr) : encode i = CmdWord.make (opcode i) (selField i) (dataField i) := by
  cases i <;> rfl

theorem encode_eq_iff {i : Instr} {w : CmdWord} :
    encode i = w ↔ HasFields w (opcode i) (selField i) (dataField i) := by
  rw [encode_eq_make, make_eq_iff]

/-! ### Operands and codes in their fields (R91 to R93, R95) -/

/-- A field that fits `m` bits is the operand of `m` bits it holds. -/
theorem setWidth_setWidth_of_lt {n m : Nat} {v : BitVec n} (h : v.toNat < 2 ^ m) :
    (v.setWidth m).setWidth n = v := by
  apply BitVec.eq_of_toNat_eq
  rw [BitVec.toNat_setWidth, BitVec.toNat_setWidth, Nat.mod_eq_of_lt h, Nat.mod_eq_of_lt v.isLt]

theorem toNat_setWidth_lt {m n k : Nat} {v : BitVec m} (h : v.toNat < 2 ^ k) : (v.setWidth n).toNat < 2 ^ k := by
  rw [BitVec.toNat_setWidth]
  exact (Nat.mod_le _ _).trans_lt h

/-- A field of 8 bits holds a code of `k` bits exactly when it lies below `2^k` and those bits name the code. -/
theorem sel_eq_code_iff {k : Nat} {α : Type} {ofBits : BitVec k → α} {bits : α → BitVec k} (hk : k ≤ 8)
    (hleft : ∀ b, bits (ofBits b) = b) (hright : ∀ c, ofBits (bits c) = c) {sel : BitVec 8} {c : α} :
    sel = (bits c).setWidth 8 ↔ sel.toNat < 2 ^ k ∧ ofBits (sel.setWidth k) = c := by
  constructor
  · rintro rfl
    rw [BitVec.setWidth_setWidth_of_le _ hk, BitVec.setWidth_eq]
    exact ⟨toNat_setWidth_lt (bits c).isLt, hright c⟩
  · rintro ⟨hlt, rfl⟩
    rw [hleft, setWidth_setWidth_of_lt hlt]

/-! ### The decoder, opcode by opcode (R83) -/

section
variable {p : Params} {w : CmdWord} {i : Instr}

theorem decodeInit_eq_ok (hp : p.Ok) :
    decodeInit p w = .ok i ↔ ∃ f, i = .init f ∧ f.toNat < 2 ^ p.refclkW ∧
      w.sel = 0 ∧ w.rsv = 0 ∧ w.data = f.setWidth 48 := by
  obtain ⟨⟨-, -, -, -, hclk⟩, -⟩ := hp
  simp only [decodeInit, requireZero_eq_ok, Bool.and_eq_true, beq_iff_eq, decide_eq_true_eq]
  constructor
  · rintro ⟨⟨⟨⟨hsel, hrsv⟩, hlt⟩, h32⟩, rfl⟩
    exact ⟨_, rfl, toNat_setWidth_lt hlt, hsel, hrsv, (setWidth_setWidth_of_lt h32).symm⟩
  · rintro ⟨f, rfl, hlt, hsel, hrsv, hdata⟩
    rw [hdata, BitVec.setWidth_setWidth_of_le _ (by omega), BitVec.setWidth_eq]
    exact ⟨⟨⟨⟨hsel, hrsv⟩, toNat_setWidth_lt hlt⟩, toNat_setWidth_lt f.isLt⟩, rfl⟩

theorem decodeSetFrequency_eq_ok :
    decodeSetFrequency p w = .ok i ↔ ∃ ch q, i = .setFrequency ch q ∧ signExtended p.freqInW q = true ∧
      w.sel = ch ∧ w.rsv = 0 ∧ w.data = q := by
  unfold decodeSetFrequency
  constructor
  · intro h
    split at h
    · cases h
    · rename_i hrsv
      split at h <;> cases h
      exact ⟨_, _, rfl, ‹_›, rfl, not_not.1 hrsv, rfl⟩
  · rintro ⟨ch, q, rfl, hext, rfl, hrsv, rfl⟩
    rw [if_neg (not_not.2 hrsv), if_pos hext]

theorem decodeSetFrequencyWord_eq_ok :
    decodeSetFrequencyWord w = .ok i ↔ ∃ ch raw, i = .setFrequencyWord ch raw ∧
      w.sel = ch ∧ w.rsv = 0 ∧ w.data = raw := by
  rw [decodeSetFrequencyWord, requireZero_eq_ok, beq_iff_eq]
  constructor
  · rintro ⟨hrsv, rfl⟩
    exact ⟨_, _, rfl, rfl, hrsv, rfl⟩
  · rintro ⟨ch, raw, rfl, rfl, hrsv, rfl⟩
    exact ⟨hrsv, rfl⟩

theorem decodeSetPhaseWord_eq_ok :
    decodeSetPhaseWord p w = .ok i ↔ ∃ ch v, i = .setPhaseWord ch v ∧ v.toNat < 2 ^ p.phaseW ∧
      w.sel = ch ∧ w.rsv = 0 ∧ w.data = v.setWidth 48 := by
  simp only [decodeSetPhaseWord, requireZero_eq_ok, Bool.and_eq_true, beq_iff_eq, decide_eq_true_eq]
  constructor
  · rintro ⟨⟨⟨hrsv, hlt⟩, h12⟩, rfl⟩
    exact ⟨_, _, rfl, toNat_setWidth_lt hlt, rfl, hrsv, (setWidth_setWidth_of_lt h12).symm⟩
  · rintro ⟨ch, v, rfl, hlt, rfl, hrsv, hdata⟩
    rw [hdata, BitVec.setWidth_setWidth_of_le _ (by omega), BitVec.setWidth_eq]
    exact ⟨⟨⟨hrsv, toNat_setWidth_lt hlt⟩, toNat_setWidth_lt v.isLt⟩, rfl⟩

/-- The decoder of the three commands `mk` whose operand is a code in `sel` (R91 to R93). -/
theorem requireZero_code_eq_ok {k : Nat} {α : Type} {ofBits : BitVec k → α} {bits : α → BitVec k} (mk : α → Instr)
    (hk : k ≤ 8) (hleft : ∀ b, bits (ofBits b) = b) (hright : ∀ c, ofBits (bits c) = c) :
    requireZero (w.sel.toNat < 2 ^ k && w.rsv == 0 && w.data == 0) (mk (ofBits (w.sel.setWidth k))) = .ok i ↔
      ∃ c, i = mk c ∧ w.sel = (bits c).setWidth 8 ∧ w.rsv = 0 ∧ w.data = 0 := by
  simp only [requireZero_eq_ok, Bool.and_eq_true, beq_iff_eq, decide_eq_true_eq, sel_eq_code_iff hk hleft hright]
  constructor
  · rintro ⟨⟨⟨hsel, hrsv⟩, hdata⟩, rfl⟩
    exact ⟨_, rfl, ⟨hsel, rfl⟩, hrsv, hdata⟩
  · rintro ⟨c, rfl, ⟨hlt, rfl⟩, hrsv, hdata⟩
    exact ⟨⟨⟨hlt, hrsv⟩, hdata⟩, rfl⟩

theorem decodeSetSignOutput_eq_ok :
    decodeSetSignOutput w = .ok i ↔ ∃ c, i = .setSignOutput c ∧
      w.sel = (bitsOfSign c).setWidth 8 ∧ w.rsv = 0 ∧ w.data = 0 :=
  requireZero_code_eq_ok .setSignOutput (by decide) (ofBits := signOfBits) (by decide) (by rintro (_ | _) <;> rfl)

theorem decodeSetOutputMode_eq_ok :
    decodeSetOutputMode w = .ok i ↔ ∃ m, i = .setOutputMode m ∧
      w.sel = (bitsOfMode m).setWidth 8 ∧ w.rsv = 0 ∧ w.data = 0 :=
  requireZero_code_eq_ok .setOutputMode (by decide) (ofBits := modeOfBits) (by decide) (by rintro (_ | _) <;> rfl)

theorem decodeSetSleep_eq_ok :
    decodeSetSleep w = .ok i ↔ ∃ z, i = .setSleep z ∧
      w.sel = (bitsOfSleep z).setWidth 8 ∧ w.rsv = 0 ∧ w.data = 0 :=
  requireZero_code_eq_ok .setSleep (by decide) (ofBits := sleepOfBits) (by decide) (by rintro (_ | _) <;> rfl)

theorem decodeSetOutputWave_eq_ok :
    decodeSetOutputWave w = .ok i ↔ ∃ k, i = .setOutputWave k ∧ w.sel = k ∧ w.rsv = 0 ∧ w.data = 0 := by
  simp only [decodeSetOutputWave, requireZero_eq_ok, Bool.and_eq_true, beq_iff_eq]
  constructor
  · rintro ⟨⟨hrsv, hdata⟩, rfl⟩
    exact ⟨_, rfl, rfl, hrsv, hdata⟩
  · rintro ⟨k, rfl, rfl, hrsv, hdata⟩
    exact ⟨⟨hrsv, hdata⟩, rfl⟩

theorem decodeReset_eq_ok :
    decodeReset w = .ok i ↔ i = .reset ∧ w.sel = 0 ∧ w.rsv = 0 ∧ w.data = 0 := by
  simp only [decodeReset, requireZero_eq_ok, Bool.and_eq_true, beq_iff_eq, and_assoc]
  exact ⟨fun ⟨hsel, hrsv, hdata, hi⟩ => ⟨hi.symm, hsel, hrsv, hdata⟩,
    fun ⟨hi, hsel, hrsv, hdata⟩ => ⟨hsel, hrsv, hdata, hi.symm⟩⟩

/-! ### The decoder and the fields (R107) -/

/-- A word decodes to a command exactly when the command is well formed and the word carries its fields. -/
theorem decode_eq_ok_iff (hp : p.Ok) :
    decode p w = .ok i ↔ i.wf p = true ∧ HasFields w (opcode i) (selField i) (dataField i) := by
  constructor
  · intro h
    unfold decode at h
    split at h
    case h_10 => cases h
    all_goals rename_i hop
    case h_1 =>
      obtain ⟨f, rfl, hlt, hsel, hrsv, hdata⟩ := (decodeInit_eq_ok hp).1 h
      exact ⟨decide_eq_true hlt, BitVec.eq_of_toNat_eq hop, hsel, hrsv, hdata⟩
    case h_2 =>
      obtain ⟨ch, q, rfl, hext, hsel, hrsv, hdata⟩ := decodeSetFrequency_eq_ok.1 h
      exact ⟨hext, BitVec.eq_of_toNat_eq hop, hsel, hrsv, hdata⟩
    case h_3 =>
      obtain ⟨ch, raw, rfl, hsel, hrsv, hdata⟩ := decodeSetFrequencyWord_eq_ok.1 h
      exact ⟨rfl, BitVec.eq_of_toNat_eq hop, hsel, hrsv, hdata⟩
    case h_4 =>
      obtain ⟨ch, v, rfl, hlt, hsel, hrsv, hdata⟩ := decodeSetPhaseWord_eq_ok.1 h
      exact ⟨decide_eq_true hlt, BitVec.eq_of_toNat_eq hop, hsel, hrsv, hdata⟩
    case h_5 =>
      obtain ⟨c, rfl, hsel, hrsv, hdata⟩ := decodeSetSignOutput_eq_ok.1 h
      exact ⟨rfl, BitVec.eq_of_toNat_eq hop, hsel, hrsv, hdata⟩
    case h_6 =>
      obtain ⟨m, rfl, hsel, hrsv, hdata⟩ := decodeSetOutputMode_eq_ok.1 h
      exact ⟨rfl, BitVec.eq_of_toNat_eq hop, hsel, hrsv, hdata⟩
    case h_7 =>
      obtain ⟨z, rfl, hsel, hrsv, hdata⟩ := decodeSetSleep_eq_ok.1 h
      exact ⟨rfl, BitVec.eq_of_toNat_eq hop, hsel, hrsv, hdata⟩
    case h_8 =>
      obtain ⟨k, rfl, hsel, hrsv, hdata⟩ := decodeSetOutputWave_eq_ok.1 h
      exact ⟨rfl, BitVec.eq_of_toNat_eq hop, hsel, hrsv, hdata⟩
    case h_9 =>
      obtain ⟨rfl, hsel, hrsv, hdata⟩ := decodeReset_eq_ok.1 h
      exact ⟨rfl, BitVec.eq_of_toNat_eq hop, hsel, hrsv, hdata⟩
  · rintro ⟨hwf, hop, hsel, hrsv, hdata⟩
    unfold decode
    rw [hop]
    cases i with
    | init f => exact (decodeInit_eq_ok hp).2 ⟨f, rfl, of_decide_eq_true hwf, hsel, hrsv, hdata⟩
    | setFrequency ch q => exact decodeSetFrequency_eq_ok.2 ⟨ch, q, rfl, hwf, hsel, hrsv, hdata⟩
    | setFrequencyWord ch raw => exact decodeSetFrequencyWord_eq_ok.2 ⟨ch, raw, rfl, hsel, hrsv, hdata⟩
    | setPhaseWord ch v =>
      exact decodeSetPhaseWord_eq_ok.2 ⟨ch, v, rfl, of_decide_eq_true hwf, hsel, hrsv, hdata⟩
    | setSignOutput c => exact decodeSetSignOutput_eq_ok.2 ⟨c, rfl, hsel, hrsv, hdata⟩
    | setOutputMode m => exact decodeSetOutputMode_eq_ok.2 ⟨m, rfl, hsel, hrsv, hdata⟩
    | setSleep z => exact decodeSetSleep_eq_ok.2 ⟨z, rfl, hsel, hrsv, hdata⟩
    | setOutputWave k => exact decodeSetOutputWave_eq_ok.2 ⟨k, rfl, hsel, hrsv, hdata⟩
    | reset => exact decodeReset_eq_ok.2 ⟨rfl, hsel, hrsv, hdata⟩

end

/-! ### The statements -/

/-- Settles O1: the encoding of a command carries its fields (`encode_eq_iff`), and such a word decodes to it
(`decode_eq_ok_iff`). -/
theorem decodeEncodeRoundTrip : Obligations.DecodeEncodeRoundTrip := by
  unfold Obligations.DecodeEncodeRoundTrip
  intro p i hp hwf
  exact (decode_eq_ok_iff hp).2 ⟨hwf, encode_eq_iff.1 rfl⟩

/-- Settles O2: the word carries the fields of the command it decodes to (`decode_eq_ok_iff`), and only the encoding
does (`encode_eq_iff`). -/
theorem encodeDecodeRoundTrip : Obligations.EncodeDecodeRoundTrip := by
  unfold Obligations.EncodeDecodeRoundTrip
  intro p w i hp h
  obtain ⟨hwf, hfields⟩ := (decode_eq_ok_iff hp).1 h
  exact ⟨hwf, encode_eq_iff.2 hfields⟩

/-- Settles O6: each of the five words is evaluated. -/
theorem writtenWordsDecode : Obligations.WrittenWordsDecode := by
  unfold Obligations.WrittenWordsDecode
  decide

end Sys2Proof.Machine
end

-- ==== Proofs: well-formed command words (30_encoding.md R84 to R86, R88, R108) ====
section
/-! A masked comparison of command words is one of their fields. So a word agrees with the row of its opcode exactly when
its must-be-zero fields are zero, which is also what the decoder checks; every other word is refused. -/

namespace Sys2Proof.Machine

open Sys2Proof.Laws

/-! ### Masked fields (R82, R84) -/

section
variable (v w : CmdWord)

theorem op_and : CmdWord.op (v &&& w) = v.op &&& w.op := BitVec.extractLsb'_and
theorem sel_and : CmdWord.sel (v &&& w) = v.sel &&& w.sel := BitVec.extractLsb'_and
theorem rsv_and : CmdWord.rsv (v &&& w) = v.rsv &&& w.rsv := BitVec.extractLsb'_and
theorem data_and : CmdWord.data (v &&& w) = v.data &&& w.data := BitVec.extractLsb'_and

end

/-- A word agrees with a row exactly when each of its fields does. -/
theorem and_mask_eq_iff {w mask mtch : CmdWord} :
    w &&& mask = mtch ↔ w.op &&& mask.op = mtch.op ∧ w.sel &&& mask.sel = mtch.sel ∧
      w.rsv &&& mask.rsv = mtch.rsv ∧ w.data &&& mask.data = mtch.data := by
  rw [fields_ext_iff, op_and, sel_and, rsv_and, data_and]

/-- The bits `47:n` of a field `data`. -/
theorem getLsbD_dataMaskAbove {n : Nat} (hn : n ≤ 48) (i : Nat) :
    (dataMaskAbove n).getLsbD i = (decide (i < 48) && !decide (i < n)) := by
  have hpos := Nat.two_pow_pos n
  have hle : 2 ^ n ≤ 2 ^ 48 := Nat.pow_le_pow_right (by decide) hn
  rw [dataMaskAbove, BitVec.getLsbD_ofNat, show 2 ^ n = 2 ^ n - 1 + 1 by omega,
    Nat.testBit_two_pow_sub_succ (by omega), Nat.testBit_two_pow_sub_one]
  by_cases hi : i < 48 <;> simp [hi]
  omega

/-- A field `data` has no bit from `n` up exactly when it lies below `2^n`. -/
theorem and_dataMaskAbove_eq_zero_iff {n : Nat} (hn : n ≤ 48) {d : BitVec 48} :
    d &&& (dataMaskAbove n).data = 0 ↔ d.toNat < 2 ^ n := by
  have hmask (i : Nat) : (d &&& (dataMaskAbove n).data).getLsbD i = (d.getLsbD i && !decide (i < n)) := by
    by_cases hi : i < 48
    · simp [CmdWord.data, getLsbD_dataMaskAbove hn, hi]
    · simp [BitVec.getLsbD_of_ge d i (not_lt.1 hi)]
  constructor
  · intro h
    refine Nat.lt_pow_two_of_testBit _ fun i hi => ?_
    have hbit : (0 : BitVec 48).getLsbD i = (d.getLsbD i && !decide (i < n)) := h ▸ hmask i
    simpa [not_lt.2 hi, BitVec.testBit_toNat] using hbit
  · intro h
    refine BitVec.eq_of_getLsbD_eq fun i _ => ?_
    rw [hmask]
    by_cases hi : i < n
    · simp [hi]
    · have hzero : d.getLsbD i = false :=
        Nat.testBit_lt_two_pow (h.trans_le (Nat.pow_le_pow_right (by decide) (not_lt.1 hi)))
      simp [hzero]

/-- The mask of a row of the table: every bit of `op` and of `rsv`, and the must-be-zero bits of `sel` and `data`. -/
structure MaskFields (mask : CmdWord) (sel : BitVec 8) (data : BitVec 48) : Prop where
  op : mask.op = BitVec.allOnes 4
  sel : mask.sel = sel
  rsv : mask.rsv = BitVec.allOnes 4
  data : mask.data = data

/-- A must-be-zero run of `data` added to a mask (R83, rows 1 and 4). -/
theorem MaskFields.or_dataMaskAbove {mask : CmdWord} {sel : BitVec 8} {n : Nat} (h : MaskFields mask sel 0)
    (hn : n ≤ 48) : MaskFields (mask ||| dataMaskAbove n) sel (dataMaskAbove n).data := by
  obtain ⟨hop, hsel, hrsv, hdata⟩ := h
  have hupper (start len : Nat) (h48 : 48 ≤ start) : (dataMaskAbove n).extractLsb' start len = 0 :=
    BitVec.eq_of_getLsbD_eq fun i _ => by
      simp [getLsbD_dataMaskAbove hn, show ¬ start + i < 48 by omega]
  constructor
  · rw [CmdWord.op, BitVec.extractLsb'_or, hupper 60 4 (by decide)]
    exact BitVec.or_zero.trans hop
  · rw [CmdWord.sel, BitVec.extractLsb'_or, hupper 52 8 (by decide)]
    exact BitVec.or_zero.trans hsel
  · rw [CmdWord.rsv, BitVec.extractLsb'_or, hupper 48 4 (by decide)]
    exact BitVec.or_zero.trans hrsv
  · rw [CmdWord.data, BitVec.extractLsb'_or]
    exact (congrArg (· ||| _) hdata).trans BitVec.zero_or

/-! ### The two forms of "well formed" (R84) -/

section
variable {p : Params} {w : CmdWord}

/-- A word agrees with the row of its opcode exactly when `rsv` and the masked bits of `sel` and `data` are zero. -/
theorem matchesRow_iff {op : BitVec 4} {mask : CmdWord} (sel : BitVec 8) (data : BitVec 48)
    (hop : w.op.toNat = op.toNat) (hrow : opcodeRow p op = some ⟨CmdWord.make op 0 0, mask⟩)
    (hmask : MaskFields mask sel data) :
    matchesRow p w = true ↔ w.sel &&& sel = 0 ∧ w.rsv = 0 ∧ w.data &&& data = 0 := by
  obtain ⟨hop', hsel, hrsv, hdata⟩ := hmask
  obtain rfl := BitVec.eq_of_toNat_eq hop
  rw [matchesRow, hrow]
  simp only [beq_iff_eq]
  rw [and_mask_eq_iff, hop', hsel, hrsv, hdata, op_make, sel_make, rsv_make, data_make, BitVec.and_allOnes,
    BitVec.and_allOnes]
  exact and_iff_right rfl

theorem sel_and_eq_zero_iff_lt_four {sel : BitVec 8} : sel &&& 0xFC = 0 ↔ sel.toNat < 4 := by revert sel; decide

theorem sel_and_eq_zero_iff_lt_two {sel : BitVec 8} : sel &&& 0xFE = 0 ↔ sel.toNat < 2 := by revert sel; decide

/-- The must-be-zero fields of R83 and the mask and match of spec/opcode_table.json say the same. -/
theorem fieldsZero_iff_matchesRow (hp : p.Ok) : fieldsZero p w = true ↔ matchesRow p w = true := by
  obtain ⟨⟨hphase, -, -, -, hclk⟩, -⟩ := hp
  unfold fieldsZero
  split
  case h_1 hop =>
    rw [matchesRow_iff (op := 1) (.allOnes 8) (dataMaskAbove p.refclkW).data hop rfl
        (.or_dataMaskAbove ⟨rfl, rfl, rfl, rfl⟩ (by omega)),
      BitVec.and_allOnes, and_dataMaskAbove_eq_zero_iff (by omega)]
    simp only [Bool.and_eq_true, beq_iff_eq, decide_eq_true_eq, and_assoc]
  case h_2 hop =>
    rw [matchesRow_iff (op := 2) 0 0 hop rfl ⟨rfl, rfl, rfl, rfl⟩]
    simp
  case h_3 hop =>
    rw [matchesRow_iff (op := 3) 0 0 hop rfl ⟨rfl, rfl, rfl, rfl⟩]
    simp
  case h_4 hop =>
    rw [matchesRow_iff (op := 4) 0 (dataMaskAbove p.phaseW).data hop rfl
        (.or_dataMaskAbove ⟨rfl, rfl, rfl, rfl⟩ (by omega)),
      and_dataMaskAbove_eq_zero_iff (by omega)]
    simp
  case h_5 hop =>
    rw [matchesRow_iff (op := 5) 0xFC (.allOnes 48) hop rfl ⟨rfl, rfl, rfl, rfl⟩, BitVec.and_allOnes,
      sel_and_eq_zero_iff_lt_four]
    simp only [Bool.and_eq_true, beq_iff_eq, decide_eq_true_eq, and_assoc]
  case h_6 hop =>
    rw [matchesRow_iff (op := 6) 0xFE (.allOnes 48) hop rfl ⟨rfl, rfl, rfl, rfl⟩, BitVec.and_allOnes,
      sel_and_eq_zero_iff_lt_two]
    simp only [Bool.and_eq_true, beq_iff_eq, decide_eq_true_eq, and_assoc]
  case h_7 hop =>
    rw [matchesRow_iff (op := 7) 0xFC (.allOnes 48) hop rfl ⟨rfl, rfl, rfl, rfl⟩, BitVec.and_allOnes,
      sel_and_eq_zero_iff_lt_four]
    simp only [Bool.and_eq_true, beq_iff_eq, decide_eq_true_eq, and_assoc]
  case h_8 hop =>
    rw [matchesRow_iff (op := 8) 0 (.allOnes 48) hop rfl ⟨rfl, rfl, rfl, rfl⟩, BitVec.and_allOnes]
    simp
  case h_9 hop =>
    rw [matchesRow_iff (op := 9) (.allOnes 8) (.allOnes 48) hop rfl ⟨rfl, rfl, rfl, rfl⟩, BitVec.and_allOnes,
      BitVec.and_allOnes]
    simp only [Bool.and_eq_true, beq_iff_eq, and_assoc]
  case h_10 =>
    have hrow : opcodeRow p w.op = none := by
      unfold opcodeRow
      split <;> simp_all
    simp [matchesRow, hrow]

theorem exists_requireZero_eq_ok {ok : Bool} {v : Instr} : (∃ i, requireZero ok v = .ok i) ↔ ok = true := by
  simp [requireZero_eq_ok]

/-- The words that decode (R84), for SET_FREQUENCY with the check of R88. -/
theorem exists_decode_eq_ok_iff (hp : p.Ok) :
    (∃ i, decode p w = .ok i) ↔ fieldsZero p w = true ∧ (w.op = 2 → signExtended p.freqInW w.data = true) := by
  obtain ⟨⟨hphase, -, -, -, hclk⟩, -⟩ := hp
  have htwo : w.op = 2 ↔ w.op.toNat = 2 := ⟨fun h => congrArg BitVec.toNat h, fun h => BitVec.eq_of_toNat_eq h⟩
  rw [htwo]
  unfold decode fieldsZero
  split
  case h_1 hop =>
    have hpow : 2 ^ p.refclkW ≤ 2 ^ 32 := Nat.pow_le_pow_right (by decide) hclk
    simpa [decodeInit, exists_requireZero_eq_ok, hop] using fun _ _ h => h.trans_le hpow
  case h_2 hop =>
    simp only [decodeSetFrequency_eq_ok, hop]
    simp [and_comm]
  case h_3 hop => simp [decodeSetFrequencyWord, exists_requireZero_eq_ok, hop]
  case h_4 hop =>
    have hpow : 2 ^ p.phaseW ≤ 2 ^ 12 := Nat.pow_le_pow_right (by decide) hphase
    simpa [decodeSetPhaseWord, exists_requireZero_eq_ok, hop] using fun _ h => h.trans_le hpow
  case h_5 hop => simp [decodeSetSignOutput, exists_requireZero_eq_ok, hop]
  case h_6 hop => simp [decodeSetOutputMode, exists_requireZero_eq_ok, hop]
  case h_7 hop => simp [decodeSetSleep, exists_requireZero_eq_ok, hop]
  case h_8 hop => simp [decodeSetOutputWave, exists_requireZero_eq_ok, hop]
  case h_9 hop => simp [decodeReset, exists_requireZero_eq_ok, hop]
  case h_10 => simp_all

/-- A reserved opcode decodes to no command (R85). -/
theorem decode_of_reserved (h : w.op.toNat = 0 ∨ 0xA ≤ w.op.toNat) : decode p w = .error .reservedOpcode := by
  unfold decode
  split
  case h_10 => rfl
  all_goals omega

end

/-! ### A refused word (R85, R86, R245) -/

section
variable {s : State} {w : CmdWord} {ps : List CmdWord}

/-- A word that spells no command is taken from the port and answered with `IllegalCommand` (R85, R86). -/
theorem step_of_not_decoded (hidle : s.plan = []) (hport : s.port = w :: ps) (hw : ∀ i, decode s.params w ≠ .ok i) :
    step s = .next ((s.accept w ps).refuse .illegalCommand) := by
  rw [step_of_presented hidle hport, acceptCommand]
  cases hdecode : decode s.params w with
  | error _ => rfl
  | ok i => exact absurd hdecode (hw i)

/-- Such a word leaves no event and no change but at the ports (R85, R86). -/
theorem refusal_precise (hidle : s.plan = []) (hport : s.port = w :: ps) (hw : ∀ i, decode s.params w ≠ .ok i) :
    ∃ t, step s = .next t ∧ t = { s with port := ps, log := t.log } ∧ t.trace = s.trace ∧
      t.results = s.results ++ [.illegalCommand] ∧ t.commands = s.commands ++ [w] :=
  ⟨_, step_of_not_decoded hidle hport hw, rfl, by simp, by simp, by simp⟩

end

/-! ### The statements -/

/-- Settles O3: the mask form field by field (`fieldsZero_iff_matchesRow`), the decoder opcode by opcode
(`exists_decode_eq_ok_iff`), and the refusal of every other word (`step_of_not_decoded`). -/
theorem wellFormedWordIsMaskMatch : Obligations.WellFormedWordIsMaskMatch := by
  unfold Obligations.WellFormedWordIsMaskMatch
  intro p w hp
  refine ⟨fieldsZero_iff_matchesRow hp, exists_decode_eq_ok_iff hp, ?_⟩
  rintro s ps rfl hidle hport hw
  rw [step_of_not_decoded hidle hport hw, State.refuse, State.emit, State.accept, List.append_assoc,
    List.singleton_append]

/-- Settles O4: a word with a reserved opcode decodes to no command (`decode_of_reserved`), so it is refused. -/
theorem reservedOpcodeRefused : Obligations.ReservedOpcodeRefused := by
  unfold Obligations.ReservedOpcodeRefused
  intro s w ps hidle hport hop
  have hreserved : w.op.toNat = 0 ∨ 0xA ≤ w.op.toNat := hop.imp_left (congrArg BitVec.toNat)
  exact refusal_precise hidle hport (by simp [decode_of_reserved hreserved])

/-- Settles O5: a word that decodes has its must-be-zero fields zero (`exists_decode_eq_ok_iff`), so this one is
refused. -/
theorem mustBeZeroBitRefused : Obligations.MustBeZeroBitRefused := by
  unfold Obligations.MustBeZeroBitRefused
  intro s w ps hidle hport hp _ _ hbit
  refine refusal_precise hidle hport fun i hi => ?_
  obtain ⟨hzero, -⟩ := (exists_decode_eq_ok_iff hp).1 ⟨i, hi⟩
  exact absurd (hbit.symm.trans hzero) (by decide)

/-- Settles O19: the codes and the payloads of R108, result by result. -/
theorem resultCodes : Obligations.ResultCodes := by
  unfold Obligations.ResultCodes
  refine ⟨⟨rfl, rfl, rfl, rfl, fun _ => rfl, rfl, rfl, rfl, rfl⟩, fun r => ?_, fun r e => ?_⟩
  · cases r <;> simp [Result.code]
  · cases r <;> simp [Result.payload]

end Sys2Proof.Machine
end

-- ==== Proofs: one result for each command, four kinds of word (30_encoding.md R80, R101, R108) ====
section
/-! Every step either gives one result and leaves the plan empty, or gives none and leaves a plan to finish: for an
action by the shape of the plan (R27), for an accepted command because a refusal is all it does. -/

namespace Sys2Proof.Machine

/-! ### A result exactly when the plan is finished (R80, R108, R256) -/

/-- From `s` to `t` one result was given and the plan is finished, or none was and there is a plan to finish. -/
def State.ResultIffFinished (s t : State) : Prop :=
  (t.plan = [] ∧ ∃ r, t.results = s.results ++ [r]) ∨ (t.plan ≠ [] ∧ t.results = s.results)

theorem ne_nil_of_planShape {p : Params} {sel rst : Bool} {plan : List Action} (h : planShape p sel rst plan = true) :
    plan ≠ [] := by
  rintro rfl
  simp at h

/-- A log that grows by items that are no results holds the results it held. -/
theorem results_of_log_append {s t : State} {added : List PortItem} (hlog : t.log = s.log ++ added)
    (hnone : ∀ r, .result r ∉ added) : t.results = s.results := by
  unfold State.results
  rw [hlog, List.filterMap_append, List.append_right_eq_self, List.filterMap_eq_nil_iff]
  intro x hx
  cases x with
  | result r => exact absurd hx (hnone r)
  | command c => rfl
  | event e => rfl
  | answer r => rfl

theorem handOver_results (s : State) (w : Word16) : (s.handOver w).results = s.results :=
  results_of_log_append (s.handOver_log w) (by split <;> simp)

/-- A transfer gives no result and leaves a plan to finish: what was left of it, or the abort of R225. -/
theorem performXfer_resultIffFinished {s t : State} {w : Word16} {rest : List Action} (hbusy : s.plan ≠ [])
    (hrest : rest ≠ []) (h : s.performXfer w rest = .next t) : s.ResultIffFinished t := by
  right
  obtain ⟨-, rfl⟩ | ⟨e, -, rfl⟩ | ⟨-, -, rfl⟩ := performXfer_next s t w rest h
  · have hlog := (State.answeredOk_log (s.handOver w).takeReply w rest).trans (by rw [State.takeReply_log])
    exact ⟨hrest, (results_of_log_append hlog (by simp)).trans (handOver_results s w)⟩
  · have hlog := (State.answeredErr_log (s.handOver w).takeReply e rest).trans (by rw [State.takeReply_log])
    exact ⟨by simp [abortPlan], (results_of_log_append hlog (by simp)).trans (handOver_results s w)⟩
  · exact ⟨by rwa [State.handOver_plan], handOver_results s w⟩

/-- An action gives a result exactly when it ends the plan: the commit does, and it stands last (R27). -/
theorem perform_resultIffFinished {a : Action} {rest : List Action} {s t : State} (hs : s.Inv)
    (hplan : s.plan = a :: rest) (h : perform a rest s = .next t) : s.ResultIffFinished t := by
  have hshape := hs.planShape_of_busy hplan
  cases a with
  | setSel l =>
    obtain ⟨-, hrest⟩ := (planShape_setSel _ _ _ _ _).1 hshape
    cases h
    exact .inr ⟨ne_nil_of_planShape hrest, results_of_log_append (State.performSetSel_log s l rest) (by simp)⟩
  | setRst l =>
    obtain ⟨-, hrest⟩ := (planShape_setRst _ _ _ _ _).1 hshape
    cases h
    exact .inr ⟨ne_nil_of_planShape hrest, results_of_log_append (State.performSetRst_log s l rest) (by simp)⟩
  | hold =>
    obtain ⟨-, -, hrest⟩ := (planShape_hold _ _ _ _).1 hshape
    cases h
    exact .inr ⟨ne_nil_of_planShape hrest, results_of_log_append (State.performHold_log s rest) (by simp)⟩
  | xfer w =>
    obtain ⟨-, -, -, hrest⟩ := (planShape_xfer _ _ _ _ _).1 hshape
    exact performXfer_resultIffFinished (by simp [hplan]) (ne_nil_of_planShape hrest) h
  | commit c =>
    obtain ⟨hrest, -⟩ := (planShape_commit _ _ _ _ _).1 hshape
    cases h
    exact .inl ⟨hrest, _, State.performCommit_results s c rest⟩

/-- An accepted command is refused with its result, or sets a plan (R290 `Accept`). -/
theorem exec_resultIffFinished {i : Instr} {s t : State} (hidle : s.plan = []) (h : exec i s = .next t) :
    s.ResultIffFinished t := by
  obtain ⟨r, -, -, rfl⟩ | ⟨f, -, -, rfl⟩ | ⟨-, sh, ch, w, -, rfl⟩ | ⟨-, c, w, ch, -, -, rfl⟩ |
    ⟨-, sh, mask, val, -, -, rfl⟩ | ⟨-, -, rfl⟩ := exec_next i s t h
  case inl => exact .inl ⟨hidle, r, State.refuse_results s r⟩
  all_goals exact .inr ⟨by simp [initPlan, freqWritePlan, oneWritePlan, resetPlan], rfl⟩

/-- The count after one result for the command in progress, or none while it goes on. -/
theorem State.ResultIffFinished.counted {s t : State} (h : s.ResultIffFinished t)
    (hcount : t.commands.length = s.results.length + 1) : t.ResultsCounted := by
  obtain ⟨hplan, r, hresults⟩ | ⟨hplan, hresults⟩ := h
  · simp [State.ResultsCounted, hplan, hresults, hcount]
  · simp [State.ResultsCounted, hplan, hresults, hcount]

/-- Settles O42: the steps of a busy block and of an accepted command give a result exactly when they leave the plan
empty (`perform_resultIffFinished`, `exec_resultIffFinished`), and only acceptance adds a command. -/
theorem oneResultPerCommand : Obligations.OneResultPerCommand := by
  unfold Obligations.OneResultPerCommand
  refine ⟨fun s t hs hcount h => ?_, rfl⟩
  obtain ⟨a, rest, hplan, hperform⟩ | ⟨-, -, rfl⟩ | ⟨cmd, ps, hidle, -, -, rfl⟩ | ⟨cmd, ps, i, hidle, -, -, hexec⟩ :=
    step_next s t h
  · refine (perform_resultIffFinished hs hplan hperform).counted ?_
    rw [(perform_logs hperform).commands_eq, hcount, if_neg (by simp [hplan])]
  · exact hcount
  · rw [State.ResultsCounted, if_pos hidle] at hcount
    simp [State.ResultsCounted, hidle, hcount]
  · rw [State.ResultsCounted, if_pos hidle] at hcount
    refine (exec_resultIffFinished (s := s.accept cmd ps) hidle hexec).counted ?_
    simp [(exec_logs hexec).commands_eq, hcount]

/-! ### The words of a plan (R101) -/

theorem planWords_oneWritePlan (p : Params) (w : Word16) : planWords (oneWritePlan p w) = [w] := rfl
theorem planWords_initPlan (p : Params) (f : BitVec 32) : planWords (initPlan p f) = [p.initControlWord] := rfl
theorem planWords_resetPlan (p : Params) : planWords (resetPlan p) = [] := rfl
theorem planWords_freqWritePlan (p : Params) (sh : Word16) (ch : Channel) (w : FreqWord) :
    planWords (freqWritePlan p sh ch w) =
      [sh ||| p.layout.b28, freqHalfWord p.layout ch (lowHalf w), freqHalfWord p.layout ch (highHalf w), sh] := rfl

/-- Each word of the plan an accepted command sets is of one of the four kinds (R101). -/
theorem exec_busWordKind {i : Instr} {s t : State} (hidle : s.plan = []) (hwf : i.wf s.params = true)
    (h : exec i s = .next t) : ∀ w ∈ planWords t.plan, BusWordKind s.params t.shadow w := by
  obtain ⟨r, -, -, rfl⟩ | ⟨f, -, -, rfl⟩ | ⟨-, sh, ch, w, hshadow, rfl⟩ | ⟨-, c, v, ch, rfl, -, rfl⟩ |
    ⟨-, sh, mask, val, -, -, rfl⟩ | ⟨-, -, rfl⟩ := exec_next i s t h
  · simp [hidle, planWords]
  · simpa [planWords_initPlan] using .inl (.inl rfl)
  · simp only [planWords_freqWritePlan, List.forall_mem_cons]
    exact ⟨.inl (.inr (.inr ⟨sh, hshadow, rfl⟩)), .inr (.inl ⟨ch, _, rfl⟩), .inr (.inl ⟨ch, _, rfl⟩),
      .inl (.inr (.inl hshadow)), by simp⟩
  · simpa [planWords_oneWritePlan] using .inr (.inr ⟨c, v, of_decide_eq_true hwf, rfl⟩)
  · simpa [planWords_oneWritePlan] using .inl (.inr (.inl rfl))
  · simp [planWords_resetPlan]

/-! ### What a step adds to the trace (R17) -/

/-- The event an action is at a port (R17, R27); a commit is none. -/
def Action.event : Action → Option Event
  | .setSel l => some (.setSel l)
  | .setRst l => some (.setRst l)
  | .hold => some .hold
  | .xfer w => some (.xfer w)
  | .commit _ => none

theorem Action.event_eq_xfer {a : Action} {w : Word16} (h : a.event = some (.xfer w)) : a = .xfer w := by
  cases a with
  | xfer w' => cases h; rfl
  | setSel l => cases h
  | setRst l => cases h
  | hold => cases h
  | commit c => cases h

/-- The trace of a log that grows. -/
theorem trace_of_log_append {s t : State} {added : List PortItem} (hlog : t.log = s.log ++ added) :
    t.trace = s.trace ++ ({ s with log := added } : State).trace := by
  unfold State.trace
  rw [hlog, List.filterMap_append]

theorem handOver_trace (s : State) (w : Word16) :
    (s.handOver w).trace = s.trace ∨ (s.handOver w).trace = s.trace ++ [.xfer w] := by
  rw [trace_of_log_append (s.handOver_log w)]
  split
  · exact .inl (List.append_nil _)
  · exact .inr rfl

/-- A transfer adds its event to the trace, unless it was recorded when the word was handed over (R290). -/
theorem performXfer_trace {s t : State} {w : Word16} {rest : List Action} (h : s.performXfer w rest = .next t) :
    t.trace = s.trace ∨ t.trace = s.trace ++ [.xfer w] := by
  have htrace : t.trace = (s.handOver w).trace := by
    obtain ⟨-, rfl⟩ | ⟨e, -, rfl⟩ | ⟨-, -, rfl⟩ := performXfer_next s t w rest h
    · simp [State.trace]
    · simp [State.trace]
    · rfl
  rw [htrace]
  exact handOver_trace s w

/-- An action adds no event to the trace but its own. -/
theorem perform_trace {a : Action} {rest : List Action} {s t : State} (h : perform a rest s = .next t) :
    t.trace = s.trace ∨ ∃ e, a.event = some e ∧ t.trace = s.trace ++ [e] := by
  cases a with
  | setSel l => cases h; exact .inr ⟨_, rfl, trace_of_log_append (State.performSetSel_log s l rest)⟩
  | setRst l => cases h; exact .inr ⟨_, rfl, trace_of_log_append (State.performSetRst_log s l rest)⟩
  | hold => cases h; exact .inr ⟨_, rfl, trace_of_log_append (State.performHold_log s rest)⟩
  | xfer w => exact (performXfer_trace h).imp_right fun htrace => ⟨_, rfl, htrace⟩
  | commit c =>
    cases h
    exact .inl ((trace_of_log_append (State.performCommit_log s c rest)).trans (List.append_nil _))

/-- Accepting a command adds no event (R242, R290). -/
theorem exec_trace {i : Instr} {s t : State} (h : exec i s = .next t) : t.trace = s.trace := by
  obtain ⟨r, -, -, rfl⟩ | ⟨f, -, -, rfl⟩ | ⟨-, sh, ch, w, -, rfl⟩ | ⟨-, c, w, ch, -, -, rfl⟩ |
    ⟨-, sh, mask, val, -, -, rfl⟩ | ⟨-, -, rfl⟩ := exec_next i s t h
  case inl => exact State.refuse_trace s r
  all_goals rfl

/-- A step that adds an event performs the action at the head of the plan, which is that event. -/
theorem step_trace {s t : State} (h : step s = .next t) :
    t.trace = s.trace ∨ ∃ a rest e, s.plan = a :: rest ∧ a.event = some e ∧ t.trace = s.trace ++ [e] := by
  obtain ⟨a, rest, hplan, hperform⟩ | ⟨-, -, rfl⟩ | ⟨cmd, ps, -, -, -, rfl⟩ | ⟨cmd, ps, i, -, -, -, hexec⟩ :=
    step_next s t h
  · exact (perform_trace hperform).imp_right fun ⟨e, hevent, htrace⟩ => ⟨a, rest, e, hplan, hevent, htrace⟩
  · exact .inl rfl
  · exact .inl (by rw [State.refuse_trace, State.accept_trace])
  · exact .inl (by rw [exec_trace hexec, State.accept_trace])

/-- Settles O36: the words are read off the plans (`exec_busWordKind`), and a step adds no event but that of the head of
the plan (`step_trace`). -/
theorem onlyFourWordKinds : Obligations.OnlyFourWordKinds := by
  unfold Obligations.OnlyFourWordKinds
  refine ⟨fun i s t hidle hwf h => exec_busWordKind hidle hwf h, fun s t w h hsent => ?_⟩
  obtain hnone | ⟨a, rest, e, hplan, hevent, htrace⟩ := step_trace h
  · simp [hnone] at hsent
  · obtain rfl : e = .xfer w := by simpa [htrace] using hsent
    exact ⟨rest, by rw [hplan, Action.event_eq_xfer hevent]⟩

end Sys2Proof.Machine
end

-- ==== Proofs: the assembler (30_encoding.md R105) ====
section
/-! A frequency literal is accepted by exact division, so nothing is rounded; and the operands that a line accepts are
those of a well-formed command, whose word carries the fields of R105's table. -/

namespace Sys2Proof.Machine

/-! ### Frequency literals -/

/-- `n` with the sign of a literal. -/
def withSign (neg : Bool) (n : Nat) : Int := if neg then -(n : Int) else n

theorem withSign_inj {neg : Bool} {m n : Nat} : withSign neg m = withSign neg n ↔ m = n := by
  cases neg <;> simp [withSign]

theorem withSign_mul (neg : Bool) (m n : Nat) : withSign neg (m * n) = withSign neg m * n := by
  cases neg <;> simp [withSign]

theorem natAbs_withSign (neg : Bool) (n : Nat) : (withSign neg n).natAbs = n := by
  cases neg <;> simp [withSign]

/-- A literal is the frequency `q / 2^frac` exactly when the cross products agree (R88). -/
theorem literal_eq_iff {h : HzLiteral} {frac : Nat} {q : Int} :
    (q : ℚ) / 2 ^ frac = (if h.neg then -1 else 1) * ((h.digits : ℚ) / 10 ^ h.places) ↔
      q * (10 ^ h.places : Nat) = withSign h.neg (h.digits * 2 ^ frac) := by
  have hsign : (if h.neg then -1 else 1) * ((h.digits : ℚ) / 10 ^ h.places) =
      (withSign h.neg h.digits : ℚ) / 10 ^ h.places := by
    cases h.neg <;> simp [withSign, neg_div]
  rw [hsign, div_eq_div_iff (by positivity) (by positivity), withSign_mul]
  exact_mod_cast Iff.rfl

/-- The exact quotient, where there is one. -/
theorem mul_eq_withSign_iff {q : Int} {neg : Bool} {m d : Nat} (hd : 0 < d) :
    q * d = withSign neg m ↔ m % d = 0 ∧ withSign neg (m / d) = q := by
  constructor
  · intro h
    have habs : q.natAbs * d = m := by
      simpa [Int.natAbs_mul, natAbs_withSign] using congrArg Int.natAbs h
    refine ⟨habs ▸ Nat.mul_mod_left _ _, ?_⟩
    have hquot : withSign neg (m / d) * d = q * d := by
      rw [← withSign_mul, Nat.div_mul_cancel ⟨_, (mul_comm d _ ▸ habs).symm⟩, h]
    exact Int.eq_of_mul_eq_mul_right (by exact_mod_cast hd.ne') hquot
  · rintro ⟨hmod, rfl⟩
    rw [← withSign_mul, Nat.div_mul_cancel (Nat.dvd_of_mod_eq_zero hmod)]

/-- The operand of a literal: its exact quotient, where that is in range (R105). -/
theorem operand_eq (p : Params) (h : HzLiteral) :
    h.operand p =
      if h.digits * 2 ^ p.freqFrac % 10 ^ h.places ≠ 0 then none
      else if -(2 ^ (p.freqInW - 1) : Int) ≤ withSign h.neg (h.digits * 2 ^ p.freqFrac / 10 ^ h.places) ∧
          withSign h.neg (h.digits * 2 ^ p.freqFrac / 10 ^ h.places) < 2 ^ (p.freqInW - 1) then
        some (withSign h.neg (h.digits * 2 ^ p.freqFrac / 10 ^ h.places))
      else none := rfl

theorem operand_eq_some_iff {p : Params} {h : HzLiteral} {q : Int} :
    h.operand p = some q ↔ q * (10 ^ h.places : Nat) = withSign h.neg (h.digits * 2 ^ p.freqFrac) ∧
      -(2 ^ (p.freqInW - 1) : Int) ≤ q ∧ q < 2 ^ (p.freqInW - 1) := by
  rw [mul_eq_withSign_iff (by positivity), operand_eq]
  by_cases hmod : h.digits * 2 ^ p.freqFrac % 10 ^ h.places = 0
  · rw [if_neg (not_not.2 hmod), Option.ite_none_right_eq_some, Option.some_inj]
    constructor
    · rintro ⟨hrange, rfl⟩
      exact ⟨⟨hmod, rfl⟩, hrange⟩
    · rintro ⟨⟨-, rfl⟩, hrange⟩
      exact ⟨hrange, rfl⟩
  · simp [hmod]

/-- Settles O56: both sides say that `q` is the exact quotient (`literal_eq_iff`, `operand_eq_some_iff`). -/
theorem assemblerNeverRounds : Obligations.AssemblerNeverRounds := by
  unfold Obligations.AssemblerNeverRounds
  intro p h q
  rw [literal_eq_iff, operand_eq_some_iff]

/-! ### The operands of a line -/

theorem below_map_eq_some_iff {α : Type} {bound v : Nat} {f : Nat → α} {a : α} :
    (below bound v).map f = some a ↔ v < bound ∧ f v = a := by
  unfold below
  split <;> simp_all

theorem below_bind_eq_some_iff {α : Type} {bound v : Nat} {f : Nat → Option α} {a : α} :
    (below bound v).bind f = some a ↔ v < bound ∧ f v = some a := by
  unfold below
  split <;> simp_all

theorem toNat_ofNat_lt {n v bound : Nat} (h : v < bound) : (BitVec.ofNat n v).toNat < bound :=
  (Nat.mod_le _ _).trans_lt h

/-- A frequency in the range of `FREQ_IN_W` bits is sign-extended from there (R88). -/
theorem signExtended_ofInt {n : Nat} {q : Int} (hpos : 1 ≤ n) (h48 : n ≤ 48) (hlo : -(2 ^ (n - 1) : Int) ≤ q)
    (hhi : q < 2 ^ (n - 1)) : signExtended n (BitVec.ofInt 48 q) = true := by
  have hpow : (2 : Int) ^ (n - 1) ≤ 2 ^ 47 := pow_le_pow_right₀ (by decide) (by omega)
  have hset : (BitVec.ofInt 48 q).setWidth n = BitVec.ofInt n q := by
    apply BitVec.eq_of_toInt_eq
    rw [BitVec.toInt_setWidth, BitVec.toInt_ofInt, BitVec.toNat_ofInt,
      Int.toNat_of_nonneg (Int.emod_nonneg q (by decide)), ← Int.emod_bmod,
      Int.emod_emod_of_dvd _ (by exact_mod_cast pow_dvd_pow 2 h48), Int.emod_bmod]
  rw [signExtended, beq_iff_eq, hset]
  apply BitVec.eq_of_toInt_eq
  rw [BitVec.toInt_signExtend_of_le h48, BitVec.toInt_ofInt_eq_self hpos hlo hhi,
    BitVec.toInt_ofInt_eq_self (by decide) (by simp; omega) (by simp; omega)]

section
variable {p : Params} {i : Instr} {w : CmdWord}

theorem instr_init_iff {f : Nat} :
    AsmLine.instr p (.init f) = some i ↔ f < 2 ^ p.refclkW ∧ .init (BitVec.ofNat 32 f) = i := by
  rw [AsmLine.instr, below_map_eq_some_iff]

theorem instr_setfreq_iff {ch : Nat} {h : HzLiteral} :
    AsmLine.instr p (.setfreq ch h) = some i ↔
      ch < 256 ∧ ∃ q, h.operand p = some q ∧ .setFrequency (BitVec.ofNat 8 ch) (BitVec.ofInt 48 q) = i := by
  rw [AsmLine.instr, below_bind_eq_some_iff, Option.map_eq_some_iff]

theorem instr_setfreqw_iff {ch v : Nat} :
    AsmLine.instr p (.setfreqw ch v) = some i ↔
      ch < 256 ∧ v < 2 ^ 48 ∧ .setFrequencyWord (BitVec.ofNat 8 ch) (BitVec.ofNat 48 v) = i := by
  rw [AsmLine.instr, below_bind_eq_some_iff, below_map_eq_some_iff]

theorem instr_setphase_iff {ch v : Nat} :
    AsmLine.instr p (.setphase ch v) = some i ↔
      ch < 256 ∧ v < 2 ^ p.phaseW ∧ .setPhaseWord (BitVec.ofNat 8 ch) (BitVec.ofNat 12 v) = i := by
  rw [AsmLine.instr, below_bind_eq_some_iff, below_map_eq_some_iff]

theorem instr_setwave_iff {k : Nat} :
    AsmLine.instr p (.setwave k) = some i ↔ k < 256 ∧ .setOutputWave (BitVec.ofNat 8 k) = i := by
  rw [AsmLine.instr, below_map_eq_some_iff]

/-- The command of an accepted line is well formed (R105, R107). -/
theorem wf_of_instr (hp : p.Ok) {l : AsmLine} (h : l.instr p = some i) : i.wf p = true := by
  obtain ⟨⟨-, -, hfreq, hfreq48, -⟩, -⟩ := hp
  cases l with
  | init f =>
    obtain ⟨hf, rfl⟩ := instr_init_iff.1 h
    exact decide_eq_true (toNat_ofNat_lt hf)
  | setfreq ch hz =>
    obtain ⟨-, q, hq, rfl⟩ := instr_setfreq_iff.1 h
    obtain ⟨-, hlo, hhi⟩ := operand_eq_some_iff.1 hq
    exact signExtended_ofInt hfreq hfreq48 hlo hhi
  | setfreqw ch v =>
    obtain ⟨-, -, rfl⟩ := instr_setfreqw_iff.1 h
    rfl
  | setphase ch v =>
    obtain ⟨-, hv, rfl⟩ := instr_setphase_iff.1 h
    exact decide_eq_true (toNat_ofNat_lt hv)
  | setwave k =>
    obtain ⟨-, rfl⟩ := instr_setwave_iff.1 h
    rfl
  | setsign c => cases h; rfl
  | setmode m => cases h; rfl
  | setsleep z => cases h; rfl
  | reset => cases h; rfl

/-! ### The word of a line -/

theorem assemble_eq_some_iff {l : AsmLine} :
    assemble p l = some w ↔ ∃ i, l.instr p = some i ∧ HasFields w (opcode i) (selField i) (dataField i) := by
  simp only [assemble, Option.map_eq_some_iff, encode_eq_iff]

/-- The word of a line that stands for one command, whatever its operands. -/
theorem assemble_eq_some_iff_of_instr {l : AsmLine} (h : l.instr p = some i) :
    assemble p l = some w ↔ HasFields w (opcode i) (selField i) (dataField i) := by
  simp [assemble_eq_some_iff, h]

theorem assemble_init_iff (hp : p.Ok) {f : Nat} :
    assemble p (.init f) = some w ↔ f < 2 ^ p.refclkW ∧ HasFields w 0x1 0 (BitVec.ofNat 48 f) := by
  obtain ⟨⟨-, -, -, -, hclk⟩, -⟩ := hp
  have hdata (hf : f < 2 ^ p.refclkW) : dataField (.init (BitVec.ofNat 32 f)) = BitVec.ofNat 48 f :=
    BitVec.setWidth_ofNat_of_le_of_lt (by decide) (hf.trans_le (Nat.pow_le_pow_right (by decide) hclk))
  rw [assemble_eq_some_iff]
  constructor
  · rintro ⟨i, hi, hw⟩
    obtain ⟨hf, rfl⟩ := instr_init_iff.1 hi
    exact ⟨hf, hdata hf ▸ hw⟩
  · rintro ⟨hf, hw⟩
    exact ⟨_, instr_init_iff.2 ⟨hf, rfl⟩, (hdata hf).symm ▸ hw⟩

theorem assemble_setfreq_iff {ch : Nat} {h : HzLiteral} :
    assemble p (.setfreq ch h) = some w ↔
      ch < 256 ∧ ∃ q, h.operand p = some q ∧ HasFields w 0x2 (BitVec.ofNat 8 ch) (BitVec.ofInt 48 q) := by
  rw [assemble_eq_some_iff]
  constructor
  · rintro ⟨i, hi, hw⟩
    obtain ⟨hch, q, hq, rfl⟩ := instr_setfreq_iff.1 hi
    exact ⟨hch, q, hq, hw⟩
  · rintro ⟨hch, q, hq, hw⟩
    exact ⟨_, instr_setfreq_iff.2 ⟨hch, q, hq, rfl⟩, hw⟩

theorem assemble_setfreqw_iff {ch v : Nat} :
    assemble p (.setfreqw ch v) = some w ↔
      ch < 256 ∧ v < 2 ^ 48 ∧ HasFields w 0x3 (BitVec.ofNat 8 ch) (BitVec.ofNat 48 v) := by
  rw [assemble_eq_some_iff]
  constructor
  · rintro ⟨i, hi, hw⟩
    obtain ⟨hch, hv, rfl⟩ := instr_setfreqw_iff.1 hi
    exact ⟨hch, hv, hw⟩
  · rintro ⟨hch, hv, hw⟩
    exact ⟨_, instr_setfreqw_iff.2 ⟨hch, hv, rfl⟩, hw⟩

theorem assemble_setphase_iff (hp : p.Ok) {ch v : Nat} :
    assemble p (.setphase ch v) = some w ↔
      ch < 256 ∧ v < 2 ^ p.phaseW ∧ HasFields w 0x4 (BitVec.ofNat 8 ch) (BitVec.ofNat 48 v) := by
  obtain ⟨⟨hphase, -⟩, -⟩ := hp
  have hdata (hv : v < 2 ^ p.phaseW) :
      dataField (.setPhaseWord (BitVec.ofNat 8 ch) (BitVec.ofNat 12 v)) = BitVec.ofNat 48 v :=
    BitVec.setWidth_ofNat_of_le_of_lt (by decide) (hv.trans_le (Nat.pow_le_pow_right (by decide) hphase))
  rw [assemble_eq_some_iff]
  constructor
  · rintro ⟨i, hi, hw⟩
    obtain ⟨hch, hv, rfl⟩ := instr_setphase_iff.1 hi
    exact ⟨hch, hv, hdata hv ▸ hw⟩
  · rintro ⟨hch, hv, hw⟩
    exact ⟨_, instr_setphase_iff.2 ⟨hch, hv, rfl⟩, (hdata hv).symm ▸ hw⟩

theorem assemble_setwave_iff {k : Nat} :
    assemble p (.setwave k) = some w ↔ k < 256 ∧ HasFields w 0x8 (BitVec.ofNat 8 k) 0 := by
  rw [assemble_eq_some_iff]
  constructor
  · rintro ⟨i, hi, hw⟩
    obtain ⟨hk, rfl⟩ := instr_setwave_iff.1 hi
    exact ⟨hk, hw⟩
  · rintro ⟨hk, hw⟩
    exact ⟨_, instr_setwave_iff.2 ⟨hk, rfl⟩, hw⟩

end

/-- The `sel` column of R105's table, code by code. -/
theorem selField_of_table :
    (∀ c sel, (c, sel) ∈ [(SignCode.off, (0 : BitVec 8)), (.msb, 1), (.msb2, 2), (.comparator, 3)] →
      selField (.setSignOutput c) = sel) ∧
    (∀ m sel, (m, sel) ∈ [(ModeCode.sine, (0 : BitVec 8)), (.triangle, 1)] → selField (.setOutputMode m) = sel) ∧
    (∀ z sel, (z, sel) ∈ [(SleepCode.off, (0 : BitVec 8)), (.mclk, 1), (.dac, 2), (.all, 3)] →
      selField (.setSleep z) = sel) := by
  refine ⟨fun c sel h => ?_, fun m sel h => ?_, fun z sel h => ?_⟩ <;> fin_cases h <;> rfl

/-- Settles O55: an accepted line stands for a well-formed command (`wf_of_instr`), whose encoding decodes to it, and
its word carries that command's fields (`assemble_eq_some_iff`), mnemonic by mnemonic. -/
theorem assembledLinesDecode : Obligations.AssembledLinesDecode := by
  unfold Obligations.AssembledLinesDecode
  intro p hp
  obtain ⟨hsign, hmode, hsleep⟩ := selField_of_table
  refine ⟨fun l w h => ?_, fun f w => assemble_init_iff hp, fun ch h w => assemble_setfreq_iff,
    fun ch v w => assemble_setfreqw_iff, fun ch v w => assemble_setphase_iff hp, fun c sel w hc => ?_,
    fun m sel w hm => ?_, fun z sel w hz => ?_, fun k w => assemble_setwave_iff,
    fun w => assemble_eq_some_iff_of_instr (i := .reset) rfl⟩
  · obtain ⟨i, hi, hfields⟩ := assemble_eq_some_iff.1 h
    exact ⟨i, hi, wf_of_instr hp hi, (decode_eq_ok_iff hp).2 ⟨wf_of_instr hp hi, hfields⟩⟩
  · rw [assemble_eq_some_iff_of_instr rfl, hsign c sel hc]
    rfl
  · rw [assemble_eq_some_iff_of_instr rfl, hmode m sel hm]
    rfl
  · rw [assemble_eq_some_iff_of_instr rfl, hsleep z sel hz]
    rfl

end Sys2Proof.Machine
end

-- ==== Proofs: the parts of a plan performed (44_reset_and_transfer.md R224 to R227) ====
section
/-! A plan is a row of pulses and framed words with one commit at its end. Each part is performed in a fixed number of
steps and leaves a state that is written out here with the rest of the plan; the run of a command chains these parts
with `run_then`. -/

namespace Sys2Proof.Machine

/-- What a framed write of `w` answered `r` passes at the ports (R17, R224): the events of `wrEvents` and the answer. -/
def wrLog (p : Params) (w : Word16) (r : Reply) : List PortItem :=
  [.event (.setSel p.selActive), .event (.xfer w), .answer r, .event (.setSel (!p.selActive))]

/-- The failure update of any command gives `TransportError` with the transport's payload (R109, R126, R225). -/
theorem commitResult_failureCommit (rest : List Action) (e : TErr) :
    commitResult (failureCommit rest e) = .transportError e := by
  unfold failureCommit
  split <;> rfl

/-- The failure update is told by what follows the release of the select line (R225). -/
theorem failureCommit_setSel (l : Bool) (rest : List Action) (e : TErr) :
    failureCommit (.setSel l :: rest) e = failureCommit rest e := rfl

/-- The update of a commit reads and writes neither the plan nor the log, so it may as well come last (R290). -/
theorem performCommit_eq_commitUpdate (s : State) (c : Commit) (rest : List Action) :
    s.performCommit c rest =
      ({ s with plan := rest, log := s.log ++ [.result (commitResult c)] } : State).commitUpdate c := by
  cases c <;> rfl

/-- A run of one step. -/
theorem run_one {s t : State} (h : step s = .next t) : Host.Core.run Sys2Proof.core 1 s = .next t :=
  (run_next 0 s t h).trans (run_nil t)

/-- A run of `j` steps, then one of `k`. -/
theorem run_then (j k : Nat) {s t u : State} (hfirst : Host.Core.run Sys2Proof.core j s = .next t)
    (hthen : Host.Core.run Sys2Proof.core k t = .next u) : Host.Core.run Sys2Proof.core (j + k) s = .next u :=
  (run_append j k s t hfirst).trans hthen

section
variable {s : State} {rest : List Action} {as : List (Option Reply)}

/-- The commit that ends a plan performed (R290). -/
theorem run_commit {c : Commit} (hplan : s.plan = .commit c :: rest) :
    Host.Core.run Sys2Proof.core 1 s =
      .next (({ s with plan := rest, log := s.log ++ [.result (commitResult c)] } : State).commitUpdate c) := by
  rw [← performCommit_eq_commitUpdate]
  exact run_one (step_commit s c rest hplan)

/-- `ResetPulse` performed (R226): the reset line ends released, and beside the line only the receiver has changed. -/
theorem run_resetPulse (hplan : s.plan = resetPulse s.params ++ rest) :
    Host.Core.run Sys2Proof.core 3 s = .next { s with
      plan := rest
      rstOut := !s.params.rstActive
      log := s.log ++ (pulseEvents s.params).map .event
      receiver := s.receiver.pulse s.params s.deviceDraws
      deviceDraws := s.deviceDraws + 1 } := by
  have hrun := run_then 1 2 (run_one (step_setRst s _ _ hplan))
    (run_then 1 1 (run_one (step_hold _ _ rfl)) (run_one (step_setRst _ _ _ rfl)))
  simpa [State.performSetRst, State.performHold, State.moveRst, State.pulseEnds, pulseEvents] using hrun

/-- A transfer answered `Ok` from the list, in a block that has not handed its word over yet (R225, R290). -/
theorem run_xfer_ok {w : Word16} (hplan : s.plan = .xfer w :: rest) (hidle : s.awaiting = false)
    (hanswers : s.answers = some .ok :: as) :
    Host.Core.run Sys2Proof.core 1 s = .next { s with
      plan := rest
      answers := as
      log := s.log ++ [.event (.xfer w), .answer .ok]
      receiver := (s.receiver.consume s.params s.deviceDraws w).clockRuns s.deviceDraws
      deviceDraws := s.deviceDraws + 1 } := by
  rw [← answeredOk_of_cons s w rest as hanswers hidle]
  exact run_one (step_xfer_ok s w rest hplan (State.nextReply_of_cons s _ as hanswers))

/-- A transfer answered `Err(e)` from the list, likewise: its plan is aborted (R225, R290). -/
theorem run_xfer_err {w : Word16} {e : TErr} (hplan : s.plan = .xfer w :: rest) (hidle : s.awaiting = false)
    (hanswers : s.answers = some (.err e) :: as) :
    Host.Core.run Sys2Proof.core 1 s = .next { s with
      plan := abortPlan s.params rest e
      answers := as
      log := s.log ++ [.event (.xfer w), .answer (.err e)]
      receiver := Receiver.anyValue s.params s.deviceDraws
      deviceDraws := s.deviceDraws + 1 } := by
  rw [← answeredErr_of_cons s w rest e as hanswers hidle]
  exact run_one (step_xfer_err s w rest e hplan (State.nextReply_of_cons s _ as hanswers))

/-- `WriteReg(w)` performed with its transfer answered `Ok` (R224): the select line ends released, one answer is taken,
and the receiver has consumed the word. -/
theorem run_writeReg_ok {w : Word16} (hplan : s.plan = writeReg s.params w ++ rest) (hidle : s.awaiting = false)
    (hanswers : s.answers = some .ok :: as) :
    Host.Core.run Sys2Proof.core 3 s = .next { s with
      plan := rest
      selOut := !s.params.selActive
      answers := as
      log := s.log ++ wrLog s.params w .ok
      receiver := (s.receiver.consume s.params s.deviceDraws w).clockRuns s.deviceDraws
      deviceDraws := s.deviceDraws + 1 } := by
  have hrun := run_then 1 2 (run_one (step_setSel s _ _ hplan))
    (run_then 1 1 (run_xfer_ok rfl hidle hanswers) (run_one (step_setSel _ _ _ rfl)))
  simpa [State.performSetSel, wrLog] using hrun

/-- The abort of a plan performed (R225): the select line is released, then the failure update. -/
theorem run_abortPlan {e : TErr} (hplan : s.plan = abortPlan s.params rest e) :
    Host.Core.run Sys2Proof.core 2 s = .next (({ s with
      plan := []
      selOut := !s.params.selActive
      log := s.log ++ [.event (.setSel (!s.params.selActive)), .result (.transportError e)] } : State).commitUpdate
        (failureCommit rest e)) := by
  have hrun := run_then 1 1 (run_one (step_setSel s _ _ hplan)) (run_commit rfl)
  simpa [State.performSetSel, commitResult_failureCommit] using hrun

/-- `WriteReg(w)` performed with its transfer answered `Err(e)` (R224, R225): the rest of the plan is dropped, and the
failure update of the command it belongs to ends it. -/
theorem run_writeReg_err {w : Word16} {e : TErr} (hplan : s.plan = writeReg s.params w ++ rest)
    (hidle : s.awaiting = false) (hanswers : s.answers = some (.err e) :: as) :
    Host.Core.run Sys2Proof.core 4 s = .next (({ s with
      plan := []
      selOut := !s.params.selActive
      answers := as
      log := s.log ++ wrLog s.params w (.err e) ++ [.result (.transportError e)]
      receiver := Receiver.anyValue s.params s.deviceDraws
      deviceDraws := s.deviceDraws + 1 } : State).commitUpdate (failureCommit rest e)) := by
  have hrun := run_then 1 3 (run_one (step_setSel s _ _ hplan))
    (run_then 1 2 (run_xfer_err rfl hidle hanswers) (run_abortPlan rfl))
  simpa [State.performSetSel, wrLog, failureCommit_setSel] using hrun

end

end Sys2Proof.Machine
end

-- ==== Proofs: INIT (40_init.md R122 to R126) ====
section
/-! INIT checks its operand alone (R122). Its plan is one pulse and one framed word, then its commit (R123): the answer
to the one transfer decides between the updates of R124 and R126. -/

namespace Sys2Proof.Machine

/-- INIT refuses a zero clock (R122). -/
theorem exec_init_zero (s : State) : exec (.init 0) s = .next (s.refuse .invalidReferenceClock) :=
  rfl

/-- INIT starts its plan with every other clock, whatever the state (R122, R123). -/
theorem exec_init_of_ne_zero (s : State) {f : BitVec 32} (hf : f ≠ 0) :
    exec (.init f) s = .next (s.startPlan (initPlan s.params f)) :=
  if_neg hf

/-- Settles O14: the check of the operand is the only one, and INIT's plan is not empty. -/
theorem initRefusesOnlyZeroClock : Obligations.InitRefusesOnlyZeroClock := by
  unfold Obligations.InitRefusesOnlyZeroClock
  exact fun s => ⟨exec_init_zero s, fun f hf => ⟨_, exec_init_of_ne_zero s hf, rfl, by simp [initPlan]⟩⟩

/-- INIT's plan performed with its transfer answered `Ok`: the pulse, the word, then the update of R124. -/
theorem run_initPlan_ok {s : State} {as : List (Option Reply)} (f : BitVec 32) (hidle : s.awaiting = false)
    (hanswers : s.answers = some .ok :: as) :
    Host.Core.run Sys2Proof.core 7 (s.startPlan (initPlan s.params f)) = .next { s with
      inited := true
      desync := false
      refHz := some f
      shadow := some s.params.initControlWord
      plan := []
      selOut := !s.params.selActive
      rstOut := !s.params.rstActive
      answers := as
      log := s.log ++ (pulseEvents s.params).map .event ++ wrLog s.params s.params.initControlWord .ok ++ [.result .ok]
      receiver := ((s.receiver.pulse s.params s.deviceDraws).consume s.params (s.deviceDraws + 1)
        s.params.initControlWord).clockRuns (s.deviceDraws + 1)
      deviceDraws := s.deviceDraws + 2 } := by
  have hpulse := run_resetPulse (s := s.startPlan (initPlan s.params f)) rfl
  exact (run_then 3 4 hpulse (run_then 3 1 (run_writeReg_ok rfl hidle hanswers) (run_commit rfl)) :)

/-- INIT's plan performed with its transfer answered `Err(e)`: the pulse, the word, then the update of R126. -/
theorem run_initPlan_err {s : State} {as : List (Option Reply)} {e : TErr} (f : BitVec 32) (hidle : s.awaiting = false)
    (hanswers : s.answers = some (.err e) :: as) :
    Host.Core.run Sys2Proof.core 7 (s.startPlan (initPlan s.params f)) = .next { s with
      inited := false
      desync := false
      refHz := none
      shadow := none
      plan := []
      selOut := !s.params.selActive
      rstOut := !s.params.rstActive
      answers := as
      log := s.log ++ (pulseEvents s.params).map .event ++ wrLog s.params s.params.initControlWord (.err e) ++
        [.result (.transportError e)]
      receiver := Receiver.anyValue s.params (s.deviceDraws + 1)
      deviceDraws := s.deviceDraws + 2 } := by
  have hpulse := run_resetPulse (s := s.startPlan (initPlan s.params f)) rfl
  exact (run_then 3 4 hpulse (run_writeReg_err rfl hidle hanswers) :)

/-- What an INIT whose transfer is answered adds to the trace and to the results, whatever the answer and the result. -/
theorem init_trace_and_results {s u : State} {r : Reply} {res : Result}
    (hlog : u.log = s.log ++ (pulseEvents s.params).map .event ++ wrLog s.params s.params.initControlWord r ++
      [.result res]) :
    u.trace = s.trace ++ pulseEvents s.params ++ wrEvents s.params s.params.initControlWord ∧
      u.results = s.results ++ [res] := by
  constructor
  · simp [State.trace, hlog, pulseEvents, wrLog, wrEvents]
  · simp [State.results, hlog, pulseEvents, wrLog]

/-- Settles O20: the plan is INIT's, and its run is that of `run_initPlan_ok`. -/
theorem initCompletes : Obligations.InitCompletes := by
  unfold Obligations.InitCompletes
  intro s f as hidle hf hanswers
  exact ⟨_, _, exec_init_of_ne_zero s hf, rfl, run_initPlan_ok f hidle hanswers, rfl, init_trace_and_results rfl⟩

/-- Settles O21: the run of INIT's plan is that of `run_initPlan_err`. -/
theorem initFails : Obligations.InitFails := by
  unfold Obligations.InitFails
  intro s f e as hidle hf hanswers
  exact ⟨_, _, exec_init_of_ne_zero s hf, run_initPlan_err f hidle hanswers, rfl, init_trace_and_results rfl⟩

end Sys2Proof.Machine
end

-- ==== Proofs: the scaler (41_frequency.md R141 to R149) ====
section
/-! The integers of R143 and the rationals of R141 and R142 meet in one equation, `exact_add_half`; the forms of R144
and the bound of R149 are then facts about a floor. -/

namespace Sys2Proof.Machine

section
variable {frac r : Nat}

theorem clkScaler_pos (hr : 0 < r) : 0 < clkScaler r := by
  unfold clkScaler
  positivity

/-- The exact product and one half is the quotient that R143 rounds down. -/
theorem exact_add_half (q : Nat) (hfrac : frac ≤ 28) (hr : 0 < r) :
    hertz frac q * clkScaler r + 1 / 2 = ((q * 2 ^ (29 - frac) + r : Nat) : ℚ) / ((2 * r : Nat) : ℚ) := by
  have hr' : (r : ℚ) ≠ 0 := by positivity
  have hpow : (2 : ℚ) ^ (29 - frac) * 2 ^ frac = 2 * 2 ^ 28 := by
    rw [← pow_add, Nat.sub_add_cancel (by omega), pow_succ']
  have hshift : (2 : ℚ) ^ (29 - frac) = 2 * 2 ^ 28 / 2 ^ frac := eq_div_of_mul_eq (by positivity) hpow
  push_cast
  rw [hertz, clkScaler, hshift]
  field_simp

/-- Settles O51: both sides are the floor of the quotient in `exact_add_half`. -/
theorem scalerRoundsExactProduct : Obligations.ScalerRoundsExactProduct := by
  unfold Obligations.ScalerRoundsExactProduct
  intro frac q r hfrac hr
  rw [roundHalfUp, exact_add_half q hfrac hr, Rat.floor_natCast_div_natCast, scaleHz, Int.natCast_ediv]

/-- The word exceeds the exact product by at most one half, and falls short of it by less than one half (R142). -/
theorem scaleHz_bounds (q : Nat) (hfrac : frac ≤ 28) (hr : 0 < r) :
    (scaleHz frac q r : ℚ) ≤ hertz frac q * clkScaler r + 1 / 2 ∧
      hertz frac q * clkScaler r + 1 / 2 < scaleHz frac q r + 1 := by
  have hfloor := scalerRoundsExactProduct frac q r hfrac hr
  exact_mod_cast Int.floor_eq_iff.1 hfloor.symm

/-- The word is below a bound exactly when the exact product is below it by more than one half (R142). -/
theorem scaleHz_lt_iff (q n : Nat) (hfrac : frac ≤ 28) (hr : 0 < r) :
    scaleHz frac q r < n ↔ hertz frac q * clkScaler r + 1 / 2 < n := by
  have hfloor := scalerRoundsExactProduct frac q r hfrac hr
  rw [← Int.ofNat_lt, hfloor, roundHalfUp, Int.floor_lt, Int.cast_natCast]

/-- The largest frequency of R144, scaled. -/
theorem frequencyBound_mul_clkScaler (hr : 0 < r) :
    (r : ℚ) * (1 - 1 / 2 ^ 29) * clkScaler r = 2 ^ 28 - 1 / 2 := by
  have hr' : (r : ℚ) ≠ 0 := by positivity
  rw [clkScaler]
  field_simp

end

/-- Settles O52: the form of the product is `scaleHz_lt_iff` at `2^28`, that of the frequency the same multiplied by the
scaler, and that of the integers the division of R143. -/
theorem scalerRange : Obligations.ScalerRange := by
  unfold Obligations.ScalerRange
  intro frac q r hfrac hr
  have hproduct : scaleHz frac q r ≤ 2 ^ 28 - 1 ↔ hertz frac q * clkScaler r < 2 ^ 28 - 1 / 2 := by
    rw [lt_sub_iff_add_lt]
    exact (Nat.le_sub_one_iff_lt (by norm_num)).trans (mod_cast scaleHz_lt_iff q (2 ^ 28) hfrac hr)
  refine ⟨hproduct, ?_, ?_⟩
  · rw [hproduct, ← frequencyBound_mul_clkScaler hr, mul_lt_mul_iff_of_pos_right (clkScaler_pos hr)]
  · rw [scaleHz, Nat.le_div_iff_mul_le (by omega)]
    omega

/-- Settles O53: the word is within one half of the exact product (`scaleHz_bounds`), and the scaler divides both. -/
theorem scalerPrecision : Obligations.ScalerPrecision := by
  unfold Obligations.ScalerPrecision
  intro frac q r hfrac hr
  obtain ⟨hle, hlt⟩ := scaleHz_bounds q hfrac hr
  have hscaler := clkScaler_pos hr
  have hhalf : |(scaleHz frac q r : ℚ) - hertz frac q * clkScaler r| ≤ 1 / 2 := by
    rw [abs_le]
    constructor <;> linarith
  calc |(scaleHz frac q r : ℚ) / clkScaler r - hertz frac q|
      = |(scaleHz frac q r : ℚ) - hertz frac q * clkScaler r| / clkScaler r := by
        rw [← abs_of_pos hscaler, ← abs_div, abs_of_pos hscaler, sub_div, mul_div_cancel_right₀ _ hscaler.ne']
    _ ≤ 1 / 2 / clkScaler r := by gcongr
    _ = 1 / (2 * clkScaler r) := div_div ..

end Sys2Proof.Machine
end

-- ==== Proofs: the frequency commands (41_frequency.md R145 to R157) ====
section
/-! A frequency write is a row of framed words, each answered `Ok` up to the last one sent: the answer to that one
decides how the command ends. SET_FREQUENCY is SET_FREQUENCY_WORD with the scaled word (R157 (4)), so its run is a run
of that command. -/

namespace Sys2Proof.Machine

/-! ### A row of framed words performed (R145, R225) -/

/-- A plan of framed words that ends in `OK` is no INIT's (R123, R145). -/
theorem failureCommit_words (p : Params) (ws : List Word16) (e : TErr) :
    failureCommit (ws.flatMap (writeReg p) ++ [.commit .ok]) e = .failed e := by
  have hinit : isInitPlan (ws.flatMap (writeReg p) ++ [.commit .ok]) = false := by
    induction ws with
    | nil => rfl
    | cons w ws ih => exact ih
  simp [failureCommit, hinit]

/-- What a row of framed words adds to the trace and to the results: all answered `Ok` but the last, `w`, whose answer
`r` leads to the result `res`. -/
theorem words_trace_and_results {s u : State} {sent : List Word16} {w : Word16} {r : Reply} {res : Result}
    (hlog : u.log = s.log ++ sent.flatMap (wrLog s.params · .ok) ++ wrLog s.params w r ++ [.result res]) :
    u.trace = s.trace ++ (sent ++ [w]).flatMap (wrEvents s.params) ∧ u.results = s.results ++ [res] := by
  constructor
  · unfold wrEvents
    simp [State.trace, hlog, wrLog, List.filterMap_flatMap]
  · simp [State.results, hlog, wrLog, List.filterMap_flatMap]

section
variable {s : State} {as : List (Option Reply)}

/-- Framed words performed, each answered `Ok`: beside the select line only the answers, the log and the receiver have
moved. -/
theorem run_words_ok {ws : List Word16} {rest : List Action}
    (hplan : s.plan = ws.flatMap (writeReg s.params) ++ rest) (hidle : s.awaiting = false)
    (hanswers : s.answers = List.replicate ws.length (some .ok) ++ as) :
    ∃ level receiver draws, Host.Core.run Sys2Proof.core (3 * ws.length) s = .next { s with
      plan := rest
      selOut := level
      answers := as
      log := s.log ++ ws.flatMap (wrLog s.params · .ok)
      receiver := receiver
      deviceDraws := draws } := by
  induction ws using List.reverseRecOn generalizing rest as with
  | nil =>
    obtain rfl : s.plan = rest := hplan
    obtain rfl : s.answers = as := hanswers
    exact ⟨s.selOut, s.receiver, s.deviceDraws, by simp [run_nil]⟩
  | append_singleton ws w ih =>
    rw [List.flatMap_append, List.append_assoc, List.flatMap_singleton] at hplan
    rw [List.length_append, List.length_singleton, List.replicate_succ', List.append_assoc] at hanswers
    obtain ⟨level, receiver, draws, hfirst⟩ := ih hplan hanswers
    have hrun := run_then (3 * ws.length) 3 hfirst (run_writeReg_ok rfl hidle rfl)
    exact ⟨_, _, _, by simpa [Nat.mul_add] using hrun⟩

/-- A row of framed words performed with every transfer answered `Ok` ends in `OK`, and no register changes (R145,
R146). -/
theorem run_words_completes {sent : List Word16} {w : Word16}
    (hplan : s.plan = (sent ++ [w]).flatMap (writeReg s.params) ++ [.commit .ok]) (hidle : s.awaiting = false)
    (hanswers : s.answers = List.replicate sent.length (some .ok) ++ some .ok :: as) :
    ∃ u : State, Host.Core.run Sys2Proof.core (3 * sent.length + 4) s = .next u ∧
      u = { s with
        plan := [], selOut := !s.params.selActive, answers := as,
        log := u.log, receiver := u.receiver, deviceDraws := u.deviceDraws } ∧
      u.trace = s.trace ++ (sent ++ [w]).flatMap (wrEvents s.params) ∧ u.results = s.results ++ [.ok] := by
  rw [List.flatMap_append, List.append_assoc, List.flatMap_singleton] at hplan
  obtain ⟨level, receiver, draws, hsent⟩ := run_words_ok hplan hidle hanswers
  have hrun := run_then _ 4 hsent (run_then 3 1 (run_writeReg_ok rfl hidle rfl) (run_commit rfl))
  exact ⟨_, hrun, rfl, words_trace_and_results rfl⟩

/-- A row of framed words with a transfer answered `Err(e)` sends no later word and ends in `TransportError(e)` with
`desync` set (R148, R225). -/
theorem run_words_fails {sent unsent : List Word16} {w : Word16} {e : TErr}
    (hplan : s.plan = (sent ++ w :: unsent).flatMap (writeReg s.params) ++ [.commit .ok]) (hidle : s.awaiting = false)
    (hanswers : s.answers = List.replicate sent.length (some .ok) ++ some (.err e) :: as) :
    ∃ u : State, Host.Core.run Sys2Proof.core (3 * sent.length + 4) s = .next u ∧
      u = { s with
        desync := true, plan := [], selOut := !s.params.selActive, answers := as,
        log := u.log, receiver := u.receiver, deviceDraws := u.deviceDraws } ∧
      u.trace = s.trace ++ (sent ++ [w]).flatMap (wrEvents s.params) ∧
      u.results = s.results ++ [.transportError e] := by
  rw [List.flatMap_append, List.append_assoc, List.flatMap_cons, List.append_assoc] at hplan
  obtain ⟨level, receiver, draws, hsent⟩ := run_words_ok hplan hidle hanswers
  have hrun := run_then _ 4 hsent (run_writeReg_err rfl hidle rfl)
  rw [failureCommit_words] at hrun
  exact ⟨_, hrun, rfl, words_trace_and_results rfl⟩

end

/-- Settles O29: the four words are those before step `k`, that of step `k`, and those after it. -/
theorem frequencyWriteFails : Obligations.FrequencyWriteFails := by
  unfold Obligations.FrequencyWriteFails
  intro s c v sh k e as hidle hk hanswers hplan
  have hk' : k < (freqWords s.params sh c v).length := hk
  have hlength : ((freqWords s.params sh c v).take k).length = k := List.length_take_of_le hk'.le
  have hwords : (freqWords s.params sh c v).take k ++ (freqWords s.params sh c v)[k] ::
      (freqWords s.params sh c v).drop (k + 1) = freqWords s.params sh c v := by
    rw [← List.drop_eq_getElem_cons hk', List.take_append_drop]
  rw [← List.take_append_getElem hk']
  rw [← hwords] at hplan
  simpa only [hlength] using run_words_fails hplan hidle (hlength.symm ▸ hanswers)

/-! ### The checks of the two commands (R150, R155) -/

/-- The operands 0 and 1 select the two channels (R87). -/
theorem channelOf_eq_some {ch : BitVec 8} {c : Channel} (h : (ch = 0 ∧ c = .ch0) ∨ (ch = 1 ∧ c = .ch1)) :
    channelOf ch = some c := by
  obtain ⟨rfl, rfl⟩ | ⟨rfl, rfl⟩ := h <;> rfl

/-- A raw word fits 28 bits exactly when it has no bit above bit 27 (R155, R156). -/
theorem raw_lt_iff_extractLsb'_eq_zero (raw : BitVec 48) : raw.toNat < 2 ^ 28 ↔ raw.extractLsb' 28 20 = 0 := by
  rw [← BitVec.toNat_inj, BitVec.extractLsb'_toNat, Nat.shiftRight_eq_div_pow]
  have hraw := raw.isLt
  simp only [BitVec.ofNat_eq_ofNat, BitVec.toNat_ofNat]
  omega

/-- A word that fits 28 bits fits the operand of SET_FREQUENCY_WORD (R89). -/
theorem toNat_ofNat_of_fits {n : Nat} (h : n < 2 ^ 28) : (BitVec.ofNat 48 n).toNat = n :=
  Nat.mod_eq_of_lt (h.trans (by norm_num))

/-- SET_FREQUENCY_WORD on a channel of a ready block, with a word that fits, starts its frequency write; the reference
clock is not read (R155). -/
theorem exec_setFrequencyWord_of_ready {s : State} {ch : BitVec 8} {c : Channel} {raw : BitVec 48} {sh : Word16}
    (hready : s.Ready) (hch : channelOf ch = some c) (hraw : raw.toNat < 2 ^ 28) (hshadow : s.shadow = some sh) :
    exec (.setFrequencyWord ch raw) s = .next (s.startPlan (freqWritePlan s.params sh c (raw.setWidth 28))) := by
  simp only [exec, execSetFrequencyWord, (notReady_eq_none_iff s).2 hready, hch, if_neg hraw.not_ge]
  exact startFreqWrite_of_some s c _ sh hshadow

/-- The plan of R145 is the four words framed, then the commit. -/
theorem freqWritePlan_eq_words (p : Params) (sh : Word16) (ch : Channel) (w : FreqWord) :
    freqWritePlan p sh ch w = (freqWords p sh ch w).flatMap (writeReg p) ++ [.commit .ok] :=
  rfl

/-- Settles O54: the two commands make the same checks of the flags and of the channel; a non-negative frequency whose
word fits then meets no other refusal, and neither does the word. -/
theorem setFrequencyIsScaledWordWrite : Obligations.SetFrequencyIsScaledWordWrite := by
  unfold Obligations.SetFrequencyIsScaledWordWrite
  intro s ch q r hq hclock hr hfits
  set W := scaleHz s.params.freqFrac q.toInt.toNat r.toNat
  have hword : (BitVec.ofNat 48 W).setWidth 28 = BitVec.ofNat 28 W := BitVec.setWidth_ofNat_of_le (by norm_num) W
  simp only [exec, execSetFrequency, execSetFrequencyWord]
  cases s.notReady with
  | some refusal => rfl
  | none =>
    cases channelOf ch with
    | none => rfl
    | some c => simp only [setScaledFrequency, hq.not_gt, hclock, hr, hfits.not_ge, toNat_ofNat_of_fits hfits,
      hword, if_false, W]

/-! ### The two commands run to their end -/

/-- Settles O23: the checks pass, and the plan is the row of the four words of R145. -/
theorem setFrequencyWordCompletes : Obligations.SetFrequencyWordCompletes := by
  unfold Obligations.SetFrequencyWordCompletes
  intro s ch c raw sh as hidle hinited hdesync hch hraw hshadow hanswers
  have hexec := exec_setFrequencyWord_of_ready ⟨hinited, hdesync⟩ (channelOf_eq_some hch)
    ((raw_lt_iff_extractLsb'_eq_zero raw).2 hraw) hshadow
  rw [freqWritePlan_eq_words, BitVec.setWidth_eq_extractLsb' (by norm_num)] at hexec
  obtain ⟨u, hrun⟩ := run_words_completes
    (s := s.startPlan (freqWritePlan s.params sh c (raw.extractLsb' 0 28)))
    (sent := (freqWords s.params sh c (raw.extractLsb' 0 28)).take 3) (w := sh) rfl hidle hanswers
  exact ⟨_, u, hexec, rfl, hrun⟩

/-- Settles O22: the command is SET_FREQUENCY_WORD with the scaled word (`setFrequencyIsScaledWordWrite`), which
completes. -/
theorem setFrequencyCompletes : Obligations.SetFrequencyCompletes := by
  unfold Obligations.SetFrequencyCompletes
  intro s ch c q r sh as hidle hinited hdesync hch hq hclock hr hshadow hfits hanswers w
  have hw : w = (BitVec.ofNat 48 (scaleHz s.params.freqFrac q.toInt.toNat r.toNat)).extractLsb' 0 28 := by
    rw [← BitVec.setWidth_eq_extractLsb' (by norm_num), BitVec.setWidth_ofNat_of_le (by norm_num)]
    rfl
  have hraw := (raw_lt_iff_extractLsb'_eq_zero _).1 ((toNat_ofNat_of_fits hfits).trans_lt hfits)
  rw [setFrequencyIsScaledWordWrite s ch q r hq hclock hr hfits, hw]
  exact setFrequencyWordCompletes s ch c _ sh as hidle hinited hdesync hch hraw hshadow hanswers

end Sys2Proof.Machine
end

-- ==== Proofs: the phase command (42_phase.md R181) ====
section
/-! SET_PHASE_WORD is a row of one framed word, so its run is that of `run_words_completes` with no word before it. -/

namespace Sys2Proof.Machine

/-- SET_PHASE_WORD on a channel of a ready block starts its one write; the shadow may be absent (R181). -/
theorem exec_setPhaseWord_of_ready {s : State} {ch : BitVec 8} {c : Channel} (w : BitVec 12) (hready : s.Ready)
    (hch : channelOf ch = some c) :
    exec (.setPhaseWord ch w) s =
      .next (s.startPlan (oneWritePlan s.params (phaseBusWord s.params.layout c w))) := by
  simp only [exec, execSetPhaseWord, (notReady_eq_none_iff s).2 hready, hch]

/-- The plan of one framed write performed with its transfer answered `Ok` ends in `OK`, and no register changes (R181,
R190). -/
theorem run_oneWritePlan_completes {s : State} {w : Word16} {as : List (Option Reply)}
    (hplan : s.plan = oneWritePlan s.params w) (hidle : s.awaiting = false) (hanswers : s.answers = some .ok :: as) :
    ∃ u : State, Host.Core.run Sys2Proof.core 4 s = .next u ∧
      u = { s with
        plan := [], selOut := !s.params.selActive, answers := as,
        log := u.log, receiver := u.receiver, deviceDraws := u.deviceDraws } ∧
      u.trace = s.trace ++ wrEvents s.params w ∧ u.results = s.results ++ [.ok] :=
  run_words_completes (sent := []) hplan hidle hanswers

/-- Settles O24: the checks pass, and the plan is the one framed write of the tagged word. -/
theorem setPhaseWordCompletes : Obligations.SetPhaseWordCompletes := by
  unfold Obligations.SetPhaseWordCompletes
  intro s ch c w as hidle hinited hdesync hch hanswers
  have hexec := exec_setPhaseWord_of_ready w ⟨hinited, hdesync⟩ (channelOf_eq_some hch)
  obtain ⟨u, hrun⟩ := run_oneWritePlan_completes
    (s := s.startPlan (oneWritePlan s.params (phaseBusWord s.params.layout c w))) rfl hidle hanswers
  exact ⟨_, u, hexec, rfl, hrun⟩

end Sys2Proof.Machine
end

-- ==== Proofs: the field setters (43_control_fields.md R190 to R207) ====
section
/-! Every command with a field of its own (`fieldWritten`) does one and the same thing in a ready block: it inserts its
value into the shadow and starts the framed write of the whole word. What a setter does and leaves is told of that one
meaning, so SET_OUTPUT_WAVE is a setter of two fields at once. -/

namespace Sys2Proof.Machine

/-! ### A field write as a change of one word (R190, R195) -/

/-- After a field write the field holds the value written (R190). -/
theorem insertField_and_mask {sh mask val : Word16} (hval : Within16 val mask) :
    insertField sh mask val &&& mask = val := by
  apply BitVec.eq_of_getLsbD_eq
  intro i hi
  have hval' := within16_iff.1 hval i
  simp only [insertField, BitVec.getLsbD_and, BitVec.getLsbD_or, BitVec.getLsbD_not, hi]
  cases hmask : mask.getLsbD i <;> simp_all

/-- What a field write leaves (R195): its field holds the value written, and every other bit is as it was, in
particular the two fields `m₁` and `m₂` that are disjoint from it. -/
theorem insertField_isolates {sh mask val m₁ m₂ : Word16} (hval : Within16 val mask) (h₁ : Disjoint16 mask m₁)
    (h₂ : Disjoint16 mask m₂) :
    insertField sh mask val &&& mask = val ∧ insertField sh mask val &&& m₁ = sh &&& m₁ ∧
      insertField sh mask val &&& m₂ = sh &&& m₂ ∧ insertField sh mask val &&& ~~~mask = sh &&& ~~~mask :=
  ⟨insertField_and_mask hval, insertField_and_of_disjoint hval h₁, insertField_and_of_disjoint hval h₂,
    insertField_and_of_disjoint hval (BitVec.and_not_self mask)⟩

/-! ### The field write of a ready block (R190, R191, R196, R201, R206) -/

/-- The shapes of R207 select the sign and the mode code of their row. -/
theorem waveMap_eq_some {k : BitVec 8} {c : SignCode} {m : ModeCode}
    (h : (k = 0 ∧ c = .off ∧ m = .sine) ∨ (k = 1 ∧ c = .off ∧ m = .triangle) ∨ (k = 2 ∧ c = .comparator ∧ m = .sine)) :
    waveMap k = some (c, m) := by
  obtain ⟨rfl, rfl, rfl⟩ | ⟨rfl, rfl, rfl⟩ | ⟨rfl, rfl, rfl⟩ := h <;> rfl

/-- The mask and the value of a shape are those of the sign field and of the mode field together (R206). -/
theorem fieldWritten_setOutputWave (l : CtrlLayout) {k : BitVec 8} {c : SignCode} {m : ModeCode}
    (h : waveMap k = some (c, m)) :
    fieldWritten l (.setOutputWave k) = some (l.signMask ||| l.modeMask, signVal l c ||| modeVal l m) := by
  rw [fieldWritten, h, Option.map_some]

/-- The state in which a field write of the word `w` starts: the shadow is updated first (R190). -/
def State.startFieldWrite (s : State) (w : Word16) : State :=
  { s with shadow := some w, plan := oneWritePlan s.params w }

section
variable {s : State} {i : Instr} {mask val sh : Word16} {as : List (Option Reply)} (hready : s.Ready)
  (hshadow : s.shadow = some sh) (hfield : fieldWritten s.params.layout i = some (mask, val))

section
include hready hfield

/-- A command that writes a field passes its checks in a ready block, and its meaning is `FieldSet` (R190). -/
theorem exec_eq_fieldSet : exec i s = s.fieldSet mask val := by
  have hnotReady := (notReady_eq_none_iff s).2 hready
  cases i with
  | setSignOutput c => cases hfield; simp only [exec, execSetSignOutput, hnotReady]
  | setOutputMode m => cases hfield; simp only [exec, execSetOutputMode, hnotReady]
  | setSleep z => cases hfield; simp only [exec, execSetSleep, hnotReady]
  | setOutputWave k =>
    obtain ⟨⟨c, m⟩, hwave, hvalues⟩ := Option.map_eq_some_iff.1 hfield
    cases hvalues
    simp only [exec, execSetOutputWave, hnotReady, hwave]
  | init _ => cases hfield
  | setFrequency _ _ => cases hfield
  | setFrequencyWord _ _ => cases hfield
  | setPhaseWord _ _ => cases hfield
  | reset => cases hfield

end

include hready hshadow hfield

/-- A command that writes a field, accepted by a ready block, starts the write of the shadow with its field inserted
(R190). -/
theorem exec_of_fieldWritten : exec i s = .next (s.startFieldWrite (insertField sh mask val)) :=
  (exec_eq_fieldSet hready hfield).trans (fieldSet_of_some s mask val sh hshadow)

/-- The shadow after a field write is accepted (R190). -/
theorem shadow_eq_insertField {t : State} {sh' : Word16} (hexec : exec i s = .next t)
    (hshadow' : t.shadow = some sh') : sh' = insertField sh mask val := by
  cases (exec_of_fieldWritten hready hshadow hfield).symm.trans hexec
  exact (Option.some.inj hshadow').symm

/-- A field write whose transfer is answered `Ok` ends in `OK`, and beside the shadow no register changes (R190). -/
theorem fieldWrite_completes (hidle : s.awaiting = false) (hanswers : s.answers = some .ok :: as) :
    ∃ t u : State, exec i s = .next t ∧ t = s.startFieldWrite (insertField sh mask val) ∧
      Host.Core.run Sys2Proof.core 4 t = .next u ∧
      u = { s with
        shadow := some (insertField sh mask val), plan := [], selOut := !s.params.selActive, answers := as,
        log := u.log, receiver := u.receiver, deviceDraws := u.deviceDraws } ∧
      u.trace = s.trace ++ wrEvents s.params (insertField sh mask val) ∧ u.results = s.results ++ [.ok] := by
  obtain ⟨u, hrun⟩ := run_oneWritePlan_completes (s := s.startFieldWrite (insertField sh mask val)) rfl hidle hanswers
  exact ⟨_, u, exec_of_fieldWritten hready hshadow hfield, rfl, hrun⟩

/-- A field write whose transfer is answered `Err(e)` ends in `TransportError(e)` with `desync` set and the new shadow
kept (R190, R228). -/
theorem fieldWrite_fails {e : TErr} (hidle : s.awaiting = false) (hanswers : s.answers = some (.err e) :: as) :
    ∃ t u : State, exec i s = .next t ∧ Host.Core.run Sys2Proof.core 4 t = .next u ∧
      u = { s with
        shadow := some (insertField sh mask val), desync := true, plan := [], selOut := !s.params.selActive,
        answers := as, log := u.log, receiver := u.receiver, deviceDraws := u.deviceDraws } ∧
      u.trace = s.trace ++ wrEvents s.params (insertField sh mask val) ∧
      u.results = s.results ++ [.transportError e] := by
  obtain ⟨u, hrun⟩ := run_words_fails (s := s.startFieldWrite (insertField sh mask val)) (sent := []) (unsent := [])
    rfl hidle hanswers
  exact ⟨_, u, exec_of_fieldWritten hready hshadow hfield, hrun⟩

end

/-! ### The statements of the family -/

/-- Settles O35: a setter inserts its field into the shadow (`shadow_eq_insertField`), its value lies in its mask, and
the three masks are disjoint (R99). -/
theorem fieldIsolation : Obligations.FieldIsolation := by
  unfold Obligations.FieldIsolation
  intro s t sh sh' hp hshadow hshadow' hinited hdesync
  obtain ⟨-, -, hl⟩ := hp
  obtain ⟨⟨hsignMode, hsignSleep, -⟩, ⟨hmodeSleep, -⟩, -⟩ := hl.1
  have hready : s.Ready := ⟨hinited, hdesync⟩
  refine ⟨fun c hexec => ?_, fun m hexec => ?_, fun z hexec => ?_⟩
  · obtain rfl := shadow_eq_insertField hready hshadow rfl hexec hshadow'
    exact insertField_isolates (signField_ok hl c).valWithin hsignMode hsignSleep
  · obtain rfl := shadow_eq_insertField hready hshadow rfl hexec hshadow'
    exact insertField_isolates (modeField_ok hl m).valWithin ((BitVec.and_comm ..).trans hsignMode) hmodeSleep
  · obtain rfl := shadow_eq_insertField hready hshadow rfl hexec hshadow'
    exact insertField_isolates (sleepField_ok hl z).valWithin ((BitVec.and_comm ..).trans hsignSleep)
      ((BitVec.and_comm ..).trans hmodeSleep)

/-- Settles O25: each of the three setters is a field write of its mask and value, and a field write completes. -/
theorem fieldSettersComplete : Obligations.FieldSettersComplete := by
  unfold Obligations.FieldSettersComplete
  intro s i mask val sh as hidle hinited hdesync hshadow hanswers hsetter
  have hfield : fieldWritten s.params.layout i = some (mask, val) := by
    obtain ⟨c, rfl, rfl, rfl⟩ | ⟨m, rfl, rfl, rfl⟩ | ⟨z, rfl, rfl, rfl⟩ := hsetter <;> rfl
  exact fieldWrite_completes ⟨hinited, hdesync⟩ hshadow hfield hidle hanswers

/-- Settles O26: the shape selects a sign and a mode code, and the command is one field write of both fields. -/
theorem setOutputWaveCompletes : Obligations.SetOutputWaveCompletes := by
  unfold Obligations.SetOutputWaveCompletes
  intro s k c m sh as hidle hinited hdesync hshadow hanswers hshape
  have hfield := fieldWritten_setOutputWave s.params.layout (waveMap_eq_some hshape)
  exact fieldWrite_completes ⟨hinited, hdesync⟩ hshadow hfield hidle hanswers

/-- Settles O30: a command that writes a field is a field write, and a failed one keeps the new shadow. -/
theorem fieldSetterFails : Obligations.FieldSetterFails := by
  unfold Obligations.FieldSetterFails
  intro s i mask val sh e as hidle hinited hdesync hshadow hanswers hfield
  exact fieldWrite_fails ⟨hinited, hdesync⟩ hshadow hfield hidle hanswers

end Sys2Proof.Machine
end

-- ==== Proofs: RESET and the answer to a transfer (44_reset_and_transfer.md R221 to R225) ====
section
/-! RESET is one pulse and its commit. A transfer may be answered in the step that hands its word over or in a later one
(R290): the word is recorded once, when it is handed over, and the answer decides how the plan goes on (R225). -/

namespace Sys2Proof.Machine

/-! ### RESET (R221, R222) -/

/-- RESET in a ready block starts the pulse (R221). -/
theorem exec_reset_of_ready {s : State} (hready : s.Ready) :
    exec .reset s = .next (s.startPlan (resetPlan s.params)) := by
  simp only [exec, execReset, (notReady_eq_none_iff s).2 hready]

/-- RESET's plan performed: the pulse, then `OK`; no answer is taken and no register changes (R221, R222). -/
theorem run_resetPlan {s : State} (hplan : s.plan = resetPlan s.params) :
    Host.Core.run Sys2Proof.core 4 s = .next { s with
      plan := []
      rstOut := !s.params.rstActive
      log := s.log ++ (pulseEvents s.params).map .event ++ [.result .ok]
      receiver := s.receiver.pulse s.params s.deviceDraws
      deviceDraws := s.deviceDraws + 1 } :=
  (run_then 3 1 (run_resetPulse hplan) (run_commit rfl) :)

/-- Settles O27: the checks pass, and the run is that of RESET's plan. -/
theorem resetCompletes : Obligations.ResetCompletes := by
  unfold Obligations.ResetCompletes
  intro s _ hinited hdesync
  refine ⟨_, _, exec_reset_of_ready ⟨hinited, hdesync⟩, rfl, run_resetPlan rfl, rfl, ?_, ?_⟩
  · simp [State.trace, pulseEvents]
  · simp [State.results, pulseEvents]

/-! ### Whose plan it is (R123, R225) -/

/-- A plan is INIT's exactly when one of INIT's two commits stands in it (R123, R126). -/
theorem isInitPlan_iff {plan : List Action} :
    isInitPlan plan = true ↔ (∃ f, .commit (.initOk f) ∈ plan) ∨ ∃ e, .commit (.initFailed e) ∈ plan := by
  rw [isInitPlan, List.any_eq_true]
  constructor
  · rintro ⟨a, hmem, ha⟩
    split at ha
    case h_1 f => exact .inl ⟨f, hmem⟩
    case h_2 e => exact .inr ⟨e, hmem⟩
    all_goals cases ha
  · rintro (⟨f, hmem⟩ | ⟨e, hmem⟩)
    · exact ⟨_, hmem, rfl⟩
    · exact ⟨_, hmem, rfl⟩

/-- The failure update of a plan that holds INIT's commit (R126). -/
theorem failureCommit_of_initOk {rest : List Action} {f : BitVec 32} (e : TErr) (h : .commit (.initOk f) ∈ rest) :
    failureCommit rest e = .initFailed e :=
  if_pos (isInitPlan_iff.2 (.inl ⟨f, h⟩))

/-- The failure update of a plan whose commits all give `OK` without an update (R225). -/
theorem failureCommit_of_ok {rest : List Action} (e : TErr) (h : ∀ c, .commit c ∈ rest → c = .ok) :
    failureCommit rest e = .failed e := by
  refine if_neg fun hinit => ?_
  obtain ⟨f, hmem⟩ | ⟨e', hmem⟩ := isInitPlan_iff.1 hinit
  · cases h _ hmem
  · cases h _ hmem

/-! ### A transfer answered at once or after a wait (R225, R290) -/

/-- What handing over `w` adds to the trace: the transfer, unless it is recorded already (R290). -/
def State.handOverEvents (s : State) (w : Word16) : List Event := if s.awaiting then [] else [.xfer w]

/-- A word handed over: the block waits, and the transfer is recorded once (R290). -/
theorem handOver_eq (s : State) (w : Word16) :
    s.handOver w = { s with awaiting := true, log := s.log ++ (s.handOverEvents w).map .event } := by
  unfold State.handOver State.handOverEvents
  split
  case isTrue hawaiting => simp [← hawaiting]
  case isFalse => rfl

section
variable {s : State} {w : Word16} {rest : List Action} {as : List (Option Reply)} (hplan : s.plan = .xfer w :: rest)
include hplan

/-- A transfer whose listed answer is `Ok` continues the plan, whether or not the block waited (R225). -/
theorem step_xfer_answeredOk (hanswers : s.answers = some .ok :: as) :
    step s = .next { s with
      awaiting := false
      plan := rest
      answers := as
      log := s.log ++ (s.handOverEvents w).map .event ++ [.answer .ok]
      receiver := (s.receiver.consume s.params s.deviceDraws w).clockRuns s.deviceDraws
      deviceDraws := s.deviceDraws + 1 } := by
  have htake := State.takeReply_of_cons (s.handOver w) _ as ((State.handOver_answers s w).trans hanswers)
  rw [step_xfer_ok s w rest hplan (State.nextReply_of_cons s _ as hanswers), htake, handOver_eq]
  rfl

/-- A transfer whose listed answer is `Err(e)` aborts the plan, whether or not the block waited (R225). -/
theorem step_xfer_answeredErr {e : TErr} (hanswers : s.answers = some (.err e) :: as) :
    step s = .next { s with
      awaiting := false
      plan := abortPlan s.params rest e
      answers := as
      log := s.log ++ (s.handOverEvents w).map .event ++ [.answer (.err e)]
      receiver := Receiver.anyValue s.params s.deviceDraws
      deviceDraws := s.deviceDraws + 1 } := by
  have htake := State.takeReply_of_cons (s.handOver w) _ as ((State.handOver_answers s w).trans hanswers)
  rw [step_xfer_err s w rest e hplan (State.nextReply_of_cons s _ as hanswers), htake, handOver_eq]
  rfl

/-- A failed transfer performed to the end of its plan: the answer, the select release, then the failure update of the
command it belongs to (R225). -/
theorem run_xfer_fails {e : TErr} (hanswers : s.answers = some (.err e) :: as) :
    Host.Core.run Sys2Proof.core 3 s = .next (({ s with
      awaiting := false
      plan := []
      selOut := !s.params.selActive
      answers := as
      log := s.log ++ (s.handOverEvents w).map .event ++
        [.answer (.err e), .event (.setSel (!s.params.selActive)), .result (.transportError e)]
      receiver := Receiver.anyValue s.params s.deviceDraws
      deviceDraws := s.deviceDraws + 1 } : State).commitUpdate (failureCommit rest e)) := by
  have hrun := run_then 1 2 (run_one (step_xfer_answeredErr hplan hanswers)) (run_abortPlan rfl)
  simpa using hrun

end

/-- What a transfer, its answer `r` and what follows add to the trace and to the results. -/
theorem xfer_trace_and_results {s u : State} {w : Word16} {r : Reply} {events : List Event} {results : List Result}
    (hlog : u.log = s.log ++ (s.handOverEvents w).map .event ++
      .answer r :: (events.map .event ++ results.map .result)) :
    u.trace = s.trace ++ s.handOverEvents w ++ events ∧ u.results = s.results ++ results := by
  constructor
  · simp [State.trace, hlog, List.filterMap_map]
  · simp [State.results, hlog, List.filterMap_map]

/-- Settles O28: the run of a failed transfer ends in the failure update of what is left of its plan, which is INIT's
exactly when INIT's commit stands there; a transfer answered `Ok` is one step. -/
theorem transferAnswerDecides : Obligations.TransferAnswerDecides := by
  unfold Obligations.TransferAnswerDecides
  intro s w rest as hplan
  refine ⟨fun e hanswers hcommits => ?_, fun e f hanswers hinit => ?_, fun hanswers => ?_⟩
  · have hrun := run_xfer_fails hplan hanswers
    rw [failureCommit_of_ok e hcommits] at hrun
    exact ⟨_, hrun, rfl, xfer_trace_and_results (events := [_]) (results := [_]) rfl⟩
  · have hrun := run_xfer_fails hplan hanswers
    rw [failureCommit_of_initOk e hinit] at hrun
    exact ⟨_, hrun, rfl, xfer_trace_and_results (events := [_]) (results := [_]) rfl⟩
  · refine ⟨_, step_xfer_answeredOk hplan hanswers, rfl, ?_⟩
    rw [← List.append_nil (s.trace ++ _), ← List.append_nil s.results]
    exact xfer_trace_and_results (events := []) (results := []) rfl

end Sys2Proof.Machine
end

-- ==== Proofs: the refusals (60_exceptions.md R242 to R251) ====
section
/-! The checks of a command stand in the order of R255: the flags, then the channel or the shape, then the frequency. A
refusal is `State.refuse`, which adds the result to the log and does nothing else. -/

namespace Sys2Proof.Machine

/-! ### The checks, one by one -/

/-- Settles O12: the check of the flags fails on `inited` (R244) and stands before every other check. -/
theorem notInitialisedRefused : Obligations.NotInitialisedRefused := by
  unfold Obligations.NotInitialisedRefused
  intro i s hi hinited
  exact exec_of_notReady hi (notReady_of_not_inited s hinited)

/-- Settles O13: the check of the flags fails on `desync` (R251) and stands before every other check. -/
theorem deviceStateUnknownRefused : Obligations.DeviceStateUnknownRefused := by
  unfold Obligations.DeviceStateUnknownRefused
  intro i s hi hinited hdesync
  exact exec_of_notReady hi (notReady_of_desync s hinited hdesync)

/-- Settles O15: each of the three commands checks the flags, which pass, and then the channel, which does not. -/
theorem badChannelRefused : Obligations.BadChannelRefused := by
  unfold Obligations.BadChannelRefused
  intro s ch hinited hdesync hch
  have hready := (notReady_eq_none_iff s).2 ⟨hinited, hdesync⟩
  have hchannel := (channelOf_eq_none_iff ch).2 hch
  refine ⟨fun q => ?_, fun raw => ?_, fun w => ?_⟩
  · simp only [exec, execSetFrequency, hready, hchannel]
    rfl
  · simp only [exec, execSetFrequencyWord, hready, hchannel]
    rfl
  · simp only [exec, execSetPhaseWord, hready, hchannel]
    rfl

/-- A shape operand names a shape exactly when it is below 3 (R206, R247). -/
theorem waveMap_eq_none_iff {k : BitVec 8} : waveMap k = none ↔ 3 ≤ k.toNat := by
  constructor
  · intro hnone
    by_contra hk
    obtain rfl | rfl | rfl : k = 0 ∨ k = 1 ∨ k = 2 := by bv_omega
    all_goals cases hnone
  · intro hk
    rw [waveMap, if_neg (by bv_omega), if_neg (by bv_omega), if_neg (by bv_omega)]

/-- Settles O16: the flags pass and the shape does not (`waveMap_eq_none_iff`). -/
theorem badShapeRefused : Obligations.BadShapeRefused := by
  unfold Obligations.BadShapeRefused
  intro s k hinited hdesync hk
  simp only [exec, execSetOutputWave, (notReady_eq_none_iff s).2 ⟨hinited, hdesync⟩, waveMap_eq_none_iff.2 hk]
  rfl

/-- SET_FREQUENCY on a channel of a ready block goes on to the checks of the frequency (R150). -/
theorem exec_setFrequency_of_ready {s : State} {ch : BitVec 8} {c : Channel} (q : BitVec 48) (hready : s.Ready)
    (hch : channelOf ch = some c) : exec (.setFrequency ch q) s = setScaledFrequency c q s := by
  simp only [exec, execSetFrequency, (notReady_eq_none_iff s).2 hready, hch]

/-- A frequency whose scaled word needs more than 28 bits is refused (R143, R152). -/
theorem setScaledFrequency_of_too_large {s : State} {q : BitVec 48} {r : BitVec 32} (c : Channel) (hq : 0 ≤ q.toInt)
    (hclock : s.refHz = some r) (hr : r ≠ 0) (hbig : 2 ^ 28 ≤ scaleHz s.params.freqFrac q.toInt.toNat r.toNat) :
    setScaledFrequency c q s = .next (s.refuse .frequencyOutOfRange) := by
  simp only [setScaledFrequency, if_neg hq.not_gt, hclock, if_neg hr, if_pos hbig]

/-- Settles O17: in a ready block on a channel below 2 the checks left are those of the sign, of the scaled word and of
the raw word. -/
theorem frequencyOutOfRangeRefused : Obligations.FrequencyOutOfRangeRefused := by
  unfold Obligations.FrequencyOutOfRangeRefused
  intro s ch hinited hdesync hch
  have hready : s.Ready := ⟨hinited, hdesync⟩
  obtain ⟨c, hchannel⟩ : ∃ c, channelOf ch = some c :=
    Option.ne_none_iff_exists'.1 fun hnone => absurd ((channelOf_eq_none_iff ch).1 hnone) hch.not_ge
  refine ⟨fun q hneg => ?_, fun q r hq hclock hr hbig => ?_, fun raw hhigh => ?_⟩
  · rw [exec_setFrequency_of_ready q hready hchannel]
    exact if_pos hneg
  · rw [exec_setFrequency_of_ready q hready hchannel]
    exact setScaledFrequency_of_too_large c hq hclock hr hbig
  · have hraw : 2 ^ 28 ≤ raw.toNat := not_lt.1 (mt (raw_lt_iff_extractLsb'_eq_zero raw).1 hhigh)
    simp only [exec, execSetFrequencyWord, (notReady_eq_none_iff s).2 hready, hchannel, if_pos hraw]
    rfl

/-! ### The step that gives an error (R242) -/

/-- A transfer gives no result, whatever its answer (R225). -/
theorem performXfer_results {s t : State} {w : Word16} {rest : List Action} (h : s.performXfer w rest = .next t) :
    t.results = s.results := by
  obtain ⟨-, rfl⟩ | ⟨e, -, rfl⟩ | ⟨-, -, rfl⟩ := performXfer_next s t w rest h
  · have hlog := (State.answeredOk_log (s.handOver w).takeReply w rest).trans (by rw [State.takeReply_log])
    exact (results_of_log_append hlog (by simp)).trans (handOver_results s w)
  · have hlog := (State.answeredErr_log (s.handOver w).takeReply e rest).trans (by rw [State.takeReply_log])
    exact (results_of_log_append hlog (by simp)).trans (handOver_results s w)
  · exact handOver_results s w

/-- Among the actions only a commit gives a result, its own (R290). -/
theorem perform_results {a : Action} {rest : List Action} {s t : State} (h : perform a rest s = .next t) :
    t.results = s.results ∨ ∃ c, t.results = s.results ++ [commitResult c] := by
  cases a with
  | setSel l => cases h; exact .inl (results_of_log_append (State.performSetSel_log s l rest) (by simp))
  | setRst l => cases h; exact .inl (results_of_log_append (State.performSetRst_log s l rest) (by simp))
  | hold => cases h; exact .inl (results_of_log_append (State.performHold_log s rest) (by simp))
  | xfer w => exact .inl (performXfer_results h)
  | commit c => cases h; exact .inr ⟨c, State.performCommit_results s c rest⟩

/-- A commit returns `OK` or a transport error (R124, R126, R225). -/
theorem commitResult_ok_or_transportError (c : Commit) :
    commitResult c = .ok ∨ ∃ e, commitResult c = .transportError e := by
  cases c with
  | initOk f => exact .inl rfl
  | ok => exact .inl rfl
  | initFailed e => exact .inr ⟨e, rfl⟩
  | failed e => exact .inr ⟨e, rfl⟩

/-- Accepting a command gives no result, or refuses the command: that is all it does then, and the result is neither
`OK` nor a transport error. -/
theorem exec_refuses_or_same_results {i : Instr} {s t : State} (h : exec i s = .next t) :
    t.results = s.results ∨ ∃ r, r ≠ .ok ∧ (∀ e, r ≠ .transportError e) ∧ t = s.refuse r := by
  obtain hrefused | ⟨f, -, -, rfl⟩ | ⟨-, sh, ch, w, -, rfl⟩ | ⟨-, c, w, ch, -, -, rfl⟩ |
    ⟨-, sh, mask, val, -, -, rfl⟩ | ⟨-, -, rfl⟩ := exec_next i s t h
  case inl => exact .inr hrefused
  all_goals exact .inl rfl

/-- A step of an idle block that gives a result refuses the command at the port. -/
theorem step_results_of_idle {s t : State} (hidle : s.plan = []) (h : step s = .next t) (hne : t.results ≠ s.results) :
    ∃ r cmd ps, s.port = cmd :: ps ∧ r ≠ .ok ∧ (∀ e, r ≠ .transportError e) ∧ t = (s.accept cmd ps).refuse r := by
  obtain ⟨a, rest, hplan, -⟩ | ⟨-, -, rfl⟩ | ⟨cmd, ps, -, hport, -, rfl⟩ | ⟨cmd, ps, i, -, hport, -, hexec⟩ :=
    step_next s t h
  · exact nomatch hidle.symm.trans hplan
  · exact absurd rfl hne
  · exact ⟨.illegalCommand, cmd, ps, hport, by simp, by simp, rfl⟩
  · obtain hsame | ⟨r, hok, htransport, ht⟩ := exec_refuses_or_same_results hexec
    · exact absurd (hsame.trans (State.accept_results s cmd ps)) hne
    · exact ⟨r, cmd, ps, hport, hok, htransport, ht⟩

/-- Settles O18: in an idle block a result comes from a refusal alone (`step_results_of_idle`), in a busy one from a
commit alone (`perform_results`). -/
theorem refusalsArePrecise : Obligations.RefusalsArePrecise := by
  unfold Obligations.RefusalsArePrecise
  refine ⟨fun s t hidle h hne => ?_, fun s t hbusy h => ?_⟩
  · obtain ⟨r, cmd, ps, hport, hok, htransport, rfl⟩ := step_results_of_idle hidle h hne
    refine ⟨r, cmd, ps, hport, hok, htransport, ?_, ?_⟩
    · rw [State.refuse, State.emit, State.accept, List.append_assoc, List.singleton_append]
    · rw [State.refuse_trace, State.accept_trace]
  · obtain ⟨a, rest, -, hperform⟩ | ⟨hidle, -, -⟩ | ⟨_, _, hidle, -⟩ | ⟨_, _, _, hidle, -⟩ := step_next s t h
    · refine (perform_results hperform).imp_right fun ⟨c, hresults⟩ => ?_
      rw [hresults]
      obtain hok | ⟨e, herr⟩ := commitResult_ok_or_transportError c
      · exact .inl (by rw [hok])
      · exact .inr ⟨e, by rw [herr]⟩
    all_goals exact absurd hidle hbusy

end Sys2Proof.Machine
end

-- ==== Proofs: recovery, silence and the end of a command (60_exceptions.md R250 to R254) ====
section
/-! A transfer that is never answered holds the block for ever. With an answer to each of its words a plan gets shorter
at every step, and so does one that a failed transfer aborts: the abort is no longer than what it replaces. -/

namespace Sys2Proof.Machine

/-! ### Recovery (R250, R252) -/

/-- Settles O32: only a commit writes `desync`, and of the four commits INIT's two clear it. -/
theorem onlyInitClearsDesync : Obligations.OnlyInitClearsDesync := by
  unfold Obligations.OnlyInitClearsDesync
  intro s t h hset hclear
  obtain ⟨-, hdesync, -⟩ | ⟨c, rest, hplan, rfl⟩ := step_flags_clock h
  · exact absurd (hclear.symm.trans (hdesync.trans hset)) (by decide)
  cases c with
  | initOk f => exact ⟨rest, .inl ⟨f, hplan⟩⟩
  | initFailed e => exact ⟨rest, .inr ⟨e, hplan⟩⟩
  | ok => exact absurd (hclear.symm.trans hset) (by decide)
  | failed e => cases hclear

/-! ### A transfer that is never answered (R253) -/

section
variable {s : State} {w : Word16} {rest : List Action} (hplan : s.plan = .xfer w :: rest) (hsilent : s.nextReply = none)
include hplan hsilent

/-- With no answer to come the word is handed over, and nothing else happens. -/
theorem step_xfer_waits (hidle : s.awaiting = false) : step s = .next (s.handOver w) := by
  simp [step, microStep, hplan, perform, State.performXfer, hsilent, hidle]

/-- A block that waits for an answer that does not come has no step. -/
theorem step_xfer_stuck (hawaiting : s.awaiting = true) : step s = .fault .transportSilent := by
  simp [step, microStep, hplan, perform, State.performXfer, hsilent, hawaiting]

end

/-- Settles O31: the word is handed over (`step_xfer_waits`), which leaves the plan and the answers as they were, so the
next step finds the same silence (`step_xfer_stuck`). -/
theorem silentTransportSticks : Obligations.SilentTransportSticks := by
  unfold Obligations.SilentTransportSticks
  intro s w rest as hplan hidle hanswers
  have hstep := step_xfer_waits hplan (State.nextReply_of_cons s none as hanswers) hidle
  have hplan' : (s.handOver w).plan = .xfer w :: rest := (State.handOver_plan s w).trans hplan
  have hsilent' : (s.handOver w).nextReply = none :=
    State.nextReply_of_cons _ none as ((State.handOver_answers s w).trans hanswers)
  refine ⟨_, hstep, ?_, trace_of_log_append (State.handOver_log_of_idle s w hidle), handOver_results s w, fun hs => ?_,
    step_xfer_stuck hplan' hsilent' (State.handOver_awaiting s w)⟩
  · rw [handOver_eq]
  · obtain ⟨hsel, -⟩ := (planShape_xfer _ _ _ _ _).1 (hs.planShape_of_busy hplan)
    rw [State.handOver_selOut, hsel]

/-! ### A command runs to its end (R254) -/

/-- An answer is listed for each word of the plan, and no listed transfer is left unanswered. -/
def State.AnswersCover (s : State) : Prop :=
  (planWords s.plan).length ≤ s.answers.length ∧ ∀ a ∈ s.answers, a ≠ none

@[simp] theorem planWords_xfer (w : Word16) (rest : List Action) : planWords (.xfer w :: rest) = w :: planWords rest :=
  rfl

/-- An aborted plan has no word left to send (R225). -/
@[simp] theorem planWords_abortPlan (p : Params) (rest : List Action) (e : TErr) : planWords (abortPlan p rest e) = [] :=
  rfl

/-- The words left in a plan are no more than there were. -/
theorem length_planWords_le (a : Action) (rest : List Action) :
    (planWords rest).length ≤ (planWords (a :: rest)).length := by
  cases a with
  | xfer w => exact Nat.le_succ _
  | setSel l => exact le_rfl
  | setRst l => exact le_rfl
  | hold => exact le_rfl
  | commit c => exact le_rfl

/-- The answers still cover the plan without its head, when the head takes none of them. -/
theorem State.AnswersCover.tail {s t : State} {a : Action} {rest : List Action} (h : s.AnswersCover)
    (hplan : s.plan = a :: rest) (hrest : t.plan = rest) (hanswers : t.answers = s.answers) : t.AnswersCover := by
  obtain ⟨hlength, hsome⟩ := h
  rw [hplan] at hlength
  rw [State.AnswersCover, hrest, hanswers]
  exact ⟨(length_planWords_le a rest).trans hlength, hsome⟩

/-- A transfer whose answer is listed comes to it. -/
theorem State.AnswersCover.head {s : State} {w : Word16} {rest : List Action} (h : s.AnswersCover)
    (hplan : s.plan = .xfer w :: rest) :
    ∃ r as, s.answers = some r :: as ∧ (planWords rest).length ≤ as.length ∧ ∀ a ∈ as, a ≠ none := by
  obtain ⟨hlength, hsome⟩ := h
  rw [hplan, planWords_xfer, List.length_cons] at hlength
  cases hanswers : s.answers with
  | nil => simp [hanswers] at hlength
  | cons a as =>
    rw [hanswers] at hlength hsome
    obtain ⟨ha, has⟩ := List.forall_mem_cons.1 hsome
    obtain ⟨r, rfl⟩ := Option.ne_none_iff_exists'.1 ha
    exact ⟨r, as, rfl, Nat.le_of_succ_le_succ hlength, has⟩

/-- The abort of a plan is no longer than what is left of it after the transfer: its release and its commit (R225,
R294). -/
theorem length_abortPlan_le {p q : Params} {sel rst : Bool} {w : Word16} {rest : List Action} (e : TErr)
    (h : planShape p sel rst (.xfer w :: rest) = true) : (abortPlan q rest e).length ≤ rest.length := by
  obtain ⟨-, -, hhead, hrest⟩ := (planShape_xfer _ _ _ _ _).1 h
  obtain ⟨tail, rfl⟩ := List.head?_eq_some_iff.1 hhead
  obtain ⟨-, htail⟩ := (planShape_setSel _ _ _ _ _).1 hrest
  exact Nat.succ_le_succ (List.length_pos_iff.2 (ne_nil_of_planShape htail))

/-- With its transfer answered, a busy block takes a step after which its plan is shorter and still covered. -/
theorem step_shortens_plan {s : State} (hs : s.Inv) (hbusy : s.plan ≠ []) (hcover : s.AnswersCover) :
    ∃ t, step s = .next t ∧ t.plan.length < s.plan.length ∧ t.AnswersCover := by
  obtain ⟨a, rest, hplan⟩ := List.exists_cons_of_ne_nil hbusy
  have hshorter : rest.length < s.plan.length := by simp [hplan]
  cases a with
  | setSel l => exact ⟨_, step_setSel s l rest hplan, hshorter, hcover.tail hplan rfl rfl⟩
  | setRst l => exact ⟨_, step_setRst s l rest hplan, hshorter, hcover.tail hplan rfl (State.moveRst_answers s l)⟩
  | hold => exact ⟨_, step_hold s rest hplan, hshorter, hcover.tail hplan rfl rfl⟩
  | commit c => exact ⟨_, step_commit s c rest hplan, hshorter, hcover.tail hplan rfl (State.commitUpdate_answers s c)⟩
  | xfer w =>
    obtain ⟨r, as, hanswers, hlength, hsome⟩ := hcover.head hplan
    cases r with
    | ok => exact ⟨_, step_xfer_answeredOk hplan hanswers, hshorter, hlength, hsome⟩
    | err e =>
      have habort := length_abortPlan_le (q := s.params) e (hs.planShape_of_busy hplan)
      exact ⟨_, step_xfer_answeredErr hplan hanswers, habort.trans_lt hshorter, by simp, hsome⟩

/-- The step of a busy block gives a result exactly when it ends the plan. -/
theorem step_resultIffFinished {s t : State} (hs : s.Inv) (hbusy : s.plan ≠ []) (h : step s = .next t) :
    s.ResultIffFinished t := by
  obtain ⟨a, rest, hplan, hperform⟩ | ⟨hidle, -, -⟩ | ⟨_, _, hidle, -⟩ | ⟨_, _, _, hidle, -⟩ := step_next s t h
  · exact perform_resultIffFinished hs hplan hperform
  all_goals exact absurd hidle hbusy

/-- A covered plan of at most `n` actions is finished after at most `n` steps, with one result. -/
theorem run_to_end (n : Nat) {s : State} (hs : s.Inv) (hbusy : s.plan ≠ []) (hcover : s.AnswersCover)
    (hn : s.plan.length ≤ n) :
    ∃ (k : Nat) (t : State), k ≤ n ∧ Host.Core.run Sys2Proof.core k s = .next t ∧ t.plan = [] ∧
      t.results.length = s.results.length + 1 := by
  induction n generalizing s with
  | zero => exact absurd (List.length_eq_zero_iff.1 (Nat.le_zero.1 hn)) hbusy
  | succ n ih =>
    obtain ⟨t, hstep, hshorter, hcover'⟩ := step_shortens_plan hs hbusy hcover
    obtain ⟨hdone, r, hresults⟩ | ⟨hbusy', hresults⟩ := step_resultIffFinished hs hbusy hstep
    · exact ⟨1, t, Nat.succ_pos n, run_one hstep, hdone, by simp [hresults]⟩
    · obtain ⟨k, u, hk, hrun, hdone, hcount⟩ :=
        ih (stepKeepsInvariant s t hs hstep) hbusy' hcover' (Nat.le_of_lt_succ (hshorter.trans_le hn))
      exact ⟨k + 1, u, Nat.succ_le_succ hk, (run_next k s t hstep).trans hrun, hdone, hresults ▸ hcount⟩

/-- Settles O43: by induction on the length of the plan (`run_to_end`), which each step makes shorter
(`step_shortens_plan`). -/
theorem commandsRunToEnd : Obligations.CommandsRunToEnd := by
  unfold Obligations.CommandsRunToEnd
  intro s hs hbusy hlength hsome
  exact run_to_end s.plan.length hs hbusy ⟨hlength, hsome⟩ le_rfl

end Sys2Proof.Machine
end

-- ==== Proofs: the step, the frame of a word and the RESET bit (70_reset_and_hazards.md R284, R290, R294) ====
section
/-! The rule of the step is its equation; the frame of a word is part of the shape of a plan; and R30 holds the bits of
the shadow outside the three fields, of which `RESET` is one under the default layout. -/

namespace Sys2Proof.Machine

/-- A command word that decodes is accepted by running the meaning of its command, the command taken from the port
(R107, R290). -/
theorem acceptCommand_of_decoded {s : State} {cmd : CmdWord} {ps : List CmdWord} {i : Instr}
    (h : decode s.params cmd = .ok i) : acceptCommand cmd ps s = exec i (s.accept cmd ps) := by
  simp only [acceptCommand, h]

/-- A command word that does not decode is refused with `IllegalCommand` (R85, R86). -/
theorem acceptCommand_of_not_decoded {s : State} {cmd : CmdWord} {ps : List CmdWord} {e : DecodeError}
    (h : decode s.params cmd = .error e) :
    acceptCommand cmd ps s = .next ((s.accept cmd ps).refuse .illegalCommand) := by
  simp only [acceptCommand, h]

/-- Settles O7: the step of an idle block is `acceptCommand`, which runs the decoded command; with an empty port it
waits. -/
theorem stepRunsDecodedCommand : Obligations.StepRunsDecodedCommand := by
  unfold Obligations.StepRunsDecodedCommand
  refine ⟨fun s w ps i hidle hport hdecode => ?_, fun s hidle hport => step_of_waiting hidle hport⟩
  rw [step_of_presented hidle hport, acceptCommand_of_decoded hdecode]
  rfl

/-- Settles O37: a word goes out only from the head of the plan (`onlyFourWordKinds`), and there the shape of the plan
holds the levels of the lines and the release that follows (`planShape_xfer`). -/
theorem wordsAreFramed : Obligations.WordsAreFramed := by
  unfold Obligations.WordsAreFramed
  intro s t w hs hstep hsent
  obtain ⟨rest, hplan⟩ := onlyFourWordKinds.2 s t w hstep hsent
  obtain ⟨hsel, hrst, hhead, -⟩ := (planShape_xfer _ _ _ _ _).1 (hs.planShape_of_busy hplan)
  obtain ⟨tail, rfl⟩ := List.head?_eq_some_iff.1 hhead
  exact ⟨hsel, hrst, tail, hplan⟩

/-- Two words that agree outside `fields` agree in every bit mask that is disjoint from it. -/
theorem and_eq_of_agree_outside {a b fields m : Word16} (h : a &&& ~~~fields = b &&& ~~~fields)
    (hm : Disjoint16 m fields) : a &&& m = b &&& m := by
  have hin : ~~~fields &&& m = m := by
    apply BitVec.eq_of_getLsbD_eq
    intro i hi
    have hbit := disjoint16_iff.1 hm i
    cases hmi : m.getLsbD i <;> simp_all
  rw [← hin, ← BitVec.and_assoc, h, BitVec.and_assoc]

/-- The bits of the shadow of an initialised block that lie in no field are those of the initial control word (R30). -/
theorem State.Inv.shadow_and_eq {s : State} {sh m : Word16} (hs : s.Inv) (hinited : s.inited = true)
    (hshadow : s.shadow = some sh) (hm : Disjoint16 m (fieldBits s.params.layout)) :
    sh &&& m = s.params.initControlWord &&& m := by
  obtain ⟨-, hshadowOk, -⟩ := hs
  obtain ⟨sh', hshadow', -, -, hrest⟩ := hshadowOk hinited
  cases hshadow.symm.trans hshadow'
  exact and_eq_of_agree_outside hrest hm

/-- Settles O44: the next state meets the invariant too, and under the default parameters `RESET` lies in no field and
is set in the initial control word (R100). -/
theorem resetBitStaysSet : Obligations.ResetBitStaysSet := by
  unfold Obligations.ResetBitStaysSet
  intro s t sh hs hparams hstep hinited hshadow
  have hdefault : t.params = Params.default := (stepKeepsParams s t hstep).trans hparams
  have hclear : Disjoint16 0x0100 (fieldBits t.params.layout) := by rw [hdefault]; decide
  rw [(stepKeepsInvariant s t hs hstep).shadow_and_eq hinited hshadow hclear, hdefault]
  decide

end Sys2Proof.Machine
end

-- ==== Proofs: the micro-steps and the big step (70_reset_and_hazards.md R290, R291) ====
section
/-! The big step runs a command with the log empty and the port as it was, the micro-steps with both as the accepted
command leaves them. The meaning of a command reads neither (`exec_map`), so both set the same plan; and each action of
it is one micro-step, but for a failed transfer, which is three (`run_runPlan`). -/

namespace Sys2Proof.Machine

/-! ### What the meaning of a command depends on -/

/-- `f` leaves what the meaning of a command reads (R255, R290): the parameters and the registers; and a refusal, a plan
and a field write pass through it. -/
structure PassesThrough (f : State → State) : Prop where
  params (s : State) : (f s).params = s.params
  notReady (s : State) : (f s).notReady = s.notReady
  refHz (s : State) : (f s).refHz = s.refHz
  shadow (s : State) : (f s).shadow = s.shadow
  refuse (s : State) (r : Result) : (f s).refuse r = f (s.refuse r)
  startPlan (s : State) (plan : List Action) : (f s).startPlan plan = f (s.startPlan plan)
  startFieldWrite (s : State) (w : Word16) : (f s).startFieldWrite w = f (s.startFieldWrite w)

section
variable {f : State → State} (hf : PassesThrough f) (s : State)
include hf

theorem startFreqWrite_map (c : Channel) (w : FreqWord) :
    (f s).startFreqWrite c w = mapNext f (s.startFreqWrite c w) := by
  simp only [State.startFreqWrite, hf.params, hf.shadow, hf.startPlan]
  split <;> rfl

theorem fieldSet_map (mask val : Word16) : (f s).fieldSet mask val = mapNext f (s.fieldSet mask val) := by
  have hshadow := hf.shadow s
  cases h : s.shadow with
  | none => simp only [State.fieldSet, hshadow, h, mapNext]
  | some sh =>
    rw [fieldSet_of_some s _ _ sh h, fieldSet_of_some (f s) _ _ sh (hshadow.trans h)]
    exact congrArg Host.Outcome.next (hf.startFieldWrite s _)

theorem setScaledFrequency_map (c : Channel) (q : BitVec 48) :
    setScaledFrequency c q (f s) = mapNext f (setScaledFrequency c q s) := by
  simp only [setScaledFrequency, hf.params, hf.refHz, hf.refuse, startFreqWrite_map hf]
  repeat' split
  all_goals rfl

/-- A change that leaves what the meaning of a command reads passes through it. -/
theorem exec_map (i : Instr) : exec i (f s) = mapNext f (exec i s) := by
  cases i with
  | init clock =>
    simp only [exec, execInit, hf.params, hf.refuse, hf.startPlan]
    split <;> rfl
  | setFrequency ch q =>
    simp only [exec, execSetFrequency, hf.notReady, hf.refuse, setScaledFrequency_map hf]
    repeat' split
    all_goals rfl
  | setFrequencyWord ch raw =>
    simp only [exec, execSetFrequencyWord, hf.notReady, hf.refuse, startFreqWrite_map hf]
    repeat' split
    all_goals rfl
  | setPhaseWord ch w =>
    simp only [exec, execSetPhaseWord, hf.notReady, hf.params, hf.refuse, hf.startPlan]
    repeat' split
    all_goals rfl
  | setSignOutput c =>
    simp only [exec, execSetSignOutput, hf.notReady, hf.params, hf.refuse, fieldSet_map hf]
    split <;> rfl
  | setOutputMode m =>
    simp only [exec, execSetOutputMode, hf.notReady, hf.params, hf.refuse, fieldSet_map hf]
    split <;> rfl
  | setSleep z =>
    simp only [exec, execSetSleep, hf.notReady, hf.params, hf.refuse, fieldSet_map hf]
    split <;> rfl
  | setOutputWave k =>
    simp only [exec, execSetOutputWave, hf.notReady, hf.params, hf.refuse, fieldSet_map hf]
    repeat' split
    all_goals rfl
  | reset =>
    simp only [exec, execReset, hf.notReady, hf.params, hf.refuse, hf.startPlan]
    split <;> rfl

end

/-- `s` with the commands `ps` at its port and the items `before` logged before its own. -/
def State.behind (ps : List CmdWord) (before : List PortItem) (s : State) : State :=
  { s with port := ps, log := before ++ s.log }

theorem passesThrough_behind (ps : List CmdWord) (before : List PortItem) :
    PassesThrough (State.behind ps before) where
  params _ := rfl
  notReady _ := rfl
  refHz _ := rfl
  shadow _ := rfl
  refuse s r := by simp [State.behind, State.refuse, State.emit]
  startPlan _ _ := rfl
  startFieldWrite _ _ := rfl

/-- The block that accepts a command is the block with an empty log of which the big step runs it (R291), but for the
port and the log. -/
theorem accept_eq_behind (s : State) (cmd : CmdWord) (ps : List CmdWord) :
    s.accept cmd ps = ({ s with log := [] } : State).behind ps (s.log ++ [.command cmd]) := by
  simp [State.accept, State.behind]

/-- Accepting a command is refusing it, or setting a plan of the right shape and at most the shadow (R27, R290). -/
theorem exec_refuses_or_starts {i : Instr} {s t : State} (h : exec i s = .next t) :
    (∃ r, t = s.refuse r) ∨
    ∃ sh plan, planShape s.params (!s.params.selActive) (!s.params.rstActive) plan = true ∧
      t = { s with shadow := sh, plan := plan } := by
  obtain ⟨r, -, -, rfl⟩ | ⟨f, hf, -, rfl⟩ | ⟨-, sh, ch, w, -, rfl⟩ | ⟨-, c, w, ch, -, -, rfl⟩ |
    ⟨-, sh, mask, val, -, -, rfl⟩ | ⟨-, -, rfl⟩ := exec_next i s t h
  · exact .inl ⟨r, rfl⟩
  · exact .inr ⟨_, _, planShape_initPlan _ hf, rfl⟩
  · exact .inr ⟨_, _, planShape_freqWritePlan _ _ _ _, rfl⟩
  · exact .inr ⟨_, _, planShape_oneWritePlan _ _, rfl⟩
  · exact .inr ⟨_, _, planShape_oneWritePlan _ _, rfl⟩
  · exact .inr ⟨_, _, planShape_resetPlan _, rfl⟩

/-! ### A big step reached by micro-steps -/

/-- From `u` the micro-steps have reached `t`, the end of the big step `b` (R291): the state of `b` with the port of `u`
and the answers that `b` left, and at the ports since `u` the events and the result of `b` and no command. -/
structure State.Reaches (u : State) (b : CommandRun) (t : State) : Prop where
  state : t = { b.state with port := u.port, answers := b.left, log := t.log }
  trace : t.trace = u.trace ++ b.events
  results : t.results = u.results ++ [b.result]
  commands : t.commands = u.commands

/-- A refused command has reached the end of its big step: no event and no change (R242). -/
theorem refuse_reaches (s : State) (cmd : CmdWord) (ps : List CmdWord) (r : Result) :
    (s.accept cmd ps).Reaches { state := s, events := [], result := r, left := s.answers }
      ((s.accept cmd ps).refuse r) where
  state := rfl
  trace := by simp
  results := by simp
  commands := by simp

/-- An event, and its answer where it is a transfer, before a big step (`CommandRun.after`). -/
theorem State.Reaches.after {u v t : State} {b : CommandRun} {e : Event} (h : v.Reaches b t) (hport : v.port = u.port)
    (answered : List Reply) (hlog : v.log = u.log ++ .event e :: answered.map .answer) :
    u.Reaches (b.after e) t where
  state := hport ▸ h.state
  trace := by
    rw [h.trace, trace_of_log_append hlog]
    simp [State.trace, List.filterMap_map, CommandRun.after]
  results := by
    rw [h.results, results_of_log_append hlog (by simp)]
    rfl
  commands := by
    rw [h.commands]
    simp [State.commands, hlog, List.filterMap_map]

/-- The block that performs the rest of a plan: `s` with what is left of the plan, of the port and of the answers, and
with the log so far. -/
def State.performing (s : State) (plan : List Action) (as : List (Option Reply)) (port : List CmdWord)
    (log : List PortItem) : State :=
  { s with plan := plan, answers := as, port := port, log := log }

/-- What a failed transfer of `w` and the rest of its aborted plan pass at the ports (R225). -/
def failedLog (p : Params) (w : Word16) (e : TErr) : List PortItem :=
  [.event (.xfer w), .answer (.err e), .event (.setSel (!p.selActive)), .result (.transportError e)]

/-- A failed transfer before its failure update: the device's state unknown, the select line released (R225, R243). -/
def State.transferFailed (s : State) : State := { s.deviceUnknown with selOut := !s.params.selActive }

section
variable {s : State} (hidle : s.Idle) (rest : List Action) (as : List (Option Reply)) (port : List CmdWord)
  (log : List PortItem)

/-- The reset line moves as in the big step. -/
theorem performSetRst_performing (l : Bool) :
    (s.performing (.setRst l :: rest) as port log).performSetRst l rest =
      (s.moveRst l).performing rest as port (log ++ [.event (.setRst l)]) := by
  have hends : (s.performing (.setRst l :: rest) as port log).pulseEnds l = s.pulseEnds l := rfl
  simp only [State.performSetRst, State.moveRst, hends]
  cases s.pulseEnds l <;> rfl

include hidle

/-- The update of a commit reads and writes neither the port nor the answers nor the log (R124, R126, R225). -/
theorem commitUpdate_performing (c : Commit) :
    (s.performing [] as port log).commitUpdate c =
      { s.commitUpdate c with port := port, answers := as, log := log } := by
  obtain ⟨hplan, -⟩ := hidle
  rw [State.performing, ← hplan]
  cases c <;> rfl

/-- A transfer answered `Ok` is the receiver's taking of the word, as in the big step (R225). -/
theorem step_xfer_performing (w : Word16) :
    step (s.performing (.xfer w :: rest) (some .ok :: as) port log) =
      .next ((s.deviceTakes w).performing rest as port (log ++ [.event (.xfer w), .answer .ok])) := by
  rw [step_xfer_answeredOk rfl rfl]
  obtain ⟨-, hawaiting⟩ := hidle
  simp [State.performing, State.handOverEvents, State.deviceTakes, hawaiting]

/-- The commit that ends a plan reaches the end of the big step (R290). -/
theorem commit_reaches (c : Commit) :
    (s.performing [.commit c] as port log).Reaches
      { state := s.commitUpdate c, events := [], result := commitResult c, left := as }
      ((s.performing [.commit c] as port log).performCommit c []) := by
  have hlog := State.performCommit_log (s.performing [.commit c] as port log) c []
  refine ⟨?_, trace_of_log_append hlog, State.performCommit_results _ c [], ?_⟩
  · rw [hlog, performCommit_eq_commitUpdate]
    exact commitUpdate_performing hidle as port _ c
  · simp [State.commands]

/-- A failed transfer is performed to the end of its plan as in the big step (R225). -/
theorem run_xfer_fails_performing (w : Word16) (e : TErr) :
    Host.Core.run Sys2Proof.core 3 (s.performing (.xfer w :: rest) (some (.err e) :: as) port log) =
      .next ((s.transferFailed.performing [] as port (log ++ failedLog s.params w e)).commitUpdate
        (failureCommit rest e)) := by
  obtain ⟨-, hawaiting⟩ := hidle
  rw [run_xfer_fails rfl rfl]
  simp [State.performing, State.handOverEvents, State.transferFailed, State.deviceUnknown, failedLog, hawaiting]

/-- A failed transfer reaches the end of the big step (R225). -/
theorem run_xfer_fails_reaches (w : Word16) (e : TErr) :
    ∃ t, Host.Core.run Sys2Proof.core 3 (s.performing (.xfer w :: rest) (some (.err e) :: as) port log) = .next t ∧
      (s.performing (.xfer w :: rest) (some (.err e) :: as) port log).Reaches {
        state := s.transferFailed.commitUpdate (failureCommit rest e)
        events := [.xfer w, .setSel (!s.params.selActive)]
        result := .transportError e
        left := as } t := by
  have hidle' : s.transferFailed.Idle := hidle
  refine ⟨_, run_xfer_fails_performing hidle rest as port log w e, ?_, ?_, ?_, ?_⟩
  · rw [commitUpdate_performing hidle']
    rfl
  · simp [State.trace, State.performing, failedLog]
  · simp [State.results, State.performing, failedLog]
  · simp [State.commands, State.performing, failedLog]

end

/-- The micro-steps of a plan reach the end of its big step: by induction along the plan, whose commit stands last
(R27). -/
theorem run_runPlan {plan : List Action} {as : List (Option Reply)} {s : State} {b : CommandRun} {p : Params}
    {sel rst : Bool} (h : runPlan plan as s = some b) (hidle : s.Idle) (hshape : planShape p sel rst plan = true)
    (port : List CmdWord) (log : List PortItem) :
    ∃ k t, Host.Core.run Sys2Proof.core k (s.performing plan as port log) = .next t ∧
      (s.performing plan as port log).Reaches b t := by
  fun_induction runPlan plan as s generalizing b sel rst log with
  | case1 => cases h
  | case2 l rest as s ih =>
    obtain ⟨b', hb', rfl⟩ := Option.map_eq_some_iff.1 h
    obtain ⟨-, hrest⟩ := (planShape_setSel _ _ _ _ _).1 hshape
    obtain ⟨k, t, hrun, hreaches⟩ := ih hb' hidle hrest (log ++ [.event (.setSel l)])
    exact ⟨k + 1, t, (run_next k _ _ (step_setSel _ l rest rfl)).trans hrun, hreaches.after rfl [] rfl⟩
  | case3 l rest as s ih =>
    obtain ⟨b', hb', rfl⟩ := Option.map_eq_some_iff.1 h
    obtain ⟨-, hrest⟩ := (planShape_setRst _ _ _ _ _).1 hshape
    obtain ⟨k, t, hrun, hreaches⟩ := ih hb' (by simpa [State.Idle] using hidle) hrest (log ++ [.event (.setRst l)])
    rw [← performSetRst_performing] at hrun
    exact ⟨k + 1, t, (run_next k _ _ (step_setRst _ l rest rfl)).trans hrun, hreaches.after rfl [] rfl⟩
  | case4 rest as s ih =>
    obtain ⟨b', hb', rfl⟩ := Option.map_eq_some_iff.1 h
    obtain ⟨-, -, hrest⟩ := (planShape_hold _ _ _ _).1 hshape
    obtain ⟨k, t, hrun, hreaches⟩ := ih hb' hidle hrest (log ++ [.event .hold])
    exact ⟨k + 1, t, (run_next k _ _ (step_hold _ rest rfl)).trans hrun, hreaches.after rfl [] rfl⟩
  | case5 => cases h
  | case6 => cases h
  | case7 w rest as s ih =>
    obtain ⟨b', hb', rfl⟩ := Option.map_eq_some_iff.1 h
    obtain ⟨-, -, -, hrest⟩ := (planShape_xfer _ _ _ _ _).1 hshape
    obtain ⟨k, t, hrun, hreaches⟩ := ih hb' hidle hrest (log ++ [.event (.xfer w), .answer .ok])
    exact ⟨k + 1, t, (run_next k _ _ (step_xfer_performing hidle rest as port log w)).trans hrun,
      hreaches.after rfl [.ok] rfl⟩
  | case8 w rest e as s =>
    cases h
    exact ⟨3, run_xfer_fails_reaches hidle rest as port log w e⟩
  | case9 c rest as s =>
    cases h
    obtain ⟨rfl, -⟩ := (planShape_commit _ _ _ _ _).1 hshape
    exact ⟨1, _, run_one (step_commit _ c [] rfl), commit_reaches hidle as port log c⟩

/-! ### The statement -/

/-- The micro-steps of an accepted command reach the end of its big step. -/
theorem accept_reaches {s : State} {cmd : CmdWord} {ps : List CmdWord} {b : CommandRun} (hidle : s.Idle)
    (h : runCommand s cmd s.answers = some b) :
    ∃ (k : Nat) (u t : State), acceptCommand cmd ps s = .next u ∧ Host.Core.run Sys2Proof.core k u = .next t ∧
      (s.accept cmd ps).Reaches b t := by
  unfold runCommand at h
  split at h
  · rename_i e hdecode
    cases h
    exact ⟨0, _, _, acceptCommand_of_not_decoded hdecode, run_nil _, refuse_reaches s cmd ps _⟩
  rename_i i hdecode
  have hpasses := passesThrough_behind ps (s.log ++ [.command cmd])
  have haccept : acceptCommand cmd ps s =
      mapNext (.behind ps (s.log ++ [.command cmd])) (exec i { s with log := [] }) := by
    rw [acceptCommand_of_decoded hdecode, accept_eq_behind, exec_map hpasses]
  split at h
  · rename_i t hexec
    rw [hexec] at haccept
    obtain ⟨r, rfl⟩ | ⟨sh, plan, hshape, rfl⟩ := exec_refuses_or_starts hexec
    · cases h
      refine ⟨0, _, _, haccept, run_nil _, ?_⟩
      rw [← hpasses.refuse, ← accept_eq_behind]
      exact refuse_reaches s cmd ps r
    · obtain ⟨k, t, hrun, hreaches⟩ := run_runPlan h hidle hshape ps (s.log ++ [.command cmd])
      refine ⟨k, _, t, haccept, ?_, hreaches.state, hreaches.trace, hreaches.results, hreaches.commands⟩
      rwa [State.behind, List.append_nil]
  · cases h
  · cases h

/-- Settles O45: the first micro-step accepts the command, and those that follow reach the end of the big step
(`accept_reaches`). -/
theorem microStepsAgreeWithBigStep : Obligations.MicroStepsAgreeWithBigStep := by
  unfold Obligations.MicroStepsAgreeWithBigStep
  intro s cmd ps b hidle hawaiting hport hrun
  obtain ⟨k, u, t, haccept, hrest, hstate, htrace, hresults, hcommands⟩ :=
    accept_reaches (ps := ps) ⟨hidle, hawaiting⟩ hrun
  refine ⟨k + 1, t, k.succ_pos, (run_next k s u ?_).trans hrest, hstate, ?_, ?_, ?_⟩
  · rw [step_of_presented hidle hport, haccept]
  · rw [htrace, State.accept_trace]
  · rw [hresults, State.accept_results]
  · rw [hcommands, State.accept_commands]

end Sys2Proof.Machine
end
